-- ==== Sys2Proof/Word.lean ====
section
/-! DEFINITION. The plainest types of the Gobard 4860: bytes, cell images and the numbers by which the manual names tuners,
outputs, profiles, key slots and halves. -/

namespace Sys2Proof

/-- One byte as it crosses a port. -/
abbrev Byte := BitVec 8

/-- The 188 bytes of a transport cell as one bit vector: byte `i` is bits `8 i` to `8 i + 7` (the scope file, "Transport cells"). -/
abbrev CellImage := BitVec 1504

/-- A tuner T0 to T7, and equally the stream input I0 to I7 and the tuning line of the same number. -/
abbrev TunerId := Fin 8

/-- An output: 0 to 3 are P0 to P3, 4 and 5 are R0 and R1 (the subjects of R198). -/
abbrev OutId := Fin 6

/-- A presentation output P0 to P3, and equally its warm context and its recall stack. -/
abbrev PresId := Fin 4

/-- A record output R0 or R1. -/
abbrev RecId := Fin 2

/-- One of the two halves of a record field. -/
abbrev HalfId := Fin 2

/-- A key slot K0 to K15. -/
abbrev SlotId := Fin 16

/-- A viewer profile 0 to 7. -/
abbrev ProfileId := Fin 8

/-- The identity of a service key: the manual never reads one, it only carries it, compares it and hands it to the unwrap engine (R109). -/
abbrev ServiceKey := Nat

/-- The identity of a wrapped control key in a key message (R85). -/
abbrev WrappedKey := Nat

/-- The identity of an unwrapped control key in a key slot (R78). -/
abbrev ControlKey := Nat

end Sys2Proof
end

