-- ==== Sys2Proof/Syntax.lean ====
section
/-! DEFINITION. The commands of the Gobard 4860, one constructor of `Instr` for each row of spec/opcode_table.json, and the types of
their operands. -/

namespace Sys2Proof

/-! ## Names and small values -/

/-- The two modulations of a multiplex (scope file, "Identifiers and codes"). -/
inductive Modulation where
  | q64 | q256
  deriving DecidableEq, Repr

/-- A multiplex as the Tuner Pool compares it: frequency in kHz and modulation (R3). -/
structure Mux where
  freq : Nat
  modulation : Modulation
  deriving DecidableEq, Repr

/-- A span: a 6-bit value and a 2-bit scale code (scope file, "Spans"). -/
structure Span where
  value : Fin 64
  scale : Fin 4
  deriving DecidableEq, Repr

/-- The scramble field of a cell (scope file, "Transport cells"). -/
inductive Scramble where
  | clear | even | odd | reserved
  deriving DecidableEq, Repr

/-- The parity of a control key (R78). -/
inductive Parity where
  | even | odd
  deriving DecidableEq, Repr

/-- The role a label plays for a context (R13). -/
inductive Role where
  | video | audio | captions | key
  deriving DecidableEq, Repr

/-- The ten contexts that list labels and use key slots: six output contexts and four warm contexts (R13, R78). -/
inductive CtxId where
  | out (o : OutId)
  | warm (p : PresId)
  deriving DecidableEq, Repr

/-- The way by which the copies of an input's cells come to a context at the Output Engines (R16). -/
structure Feed where
  input : TunerId
  ctx : CtxId
  deriving DecidableEq, Repr

/-- Price modes, in the order of their ordinals 0 to 3 (R29). -/
inductive PriceMode where
  | free | flat | metered | unpriced
  deriving DecidableEq, Repr

/-- Copy control, from least to most restrictive (R29, R174). -/
inductive CopyControl where
  | free | once | noMore | never
  deriving DecidableEq, Repr

/-- The seven fault classes (R184). -/
inductive FaultClass where
  | keyIntegrity | keyGap | continuity | signalLoss | streamSilence | copyViolation | ringOverrun
  deriving DecidableEq, Repr

/-- A code of four decimal digits as a request carries it; a digit over 9 is refused (R142). -/
structure Code where
  d0 : Nat
  d1 : Nat
  d2 : Nat
  d3 : Nat
  deriving DecidableEq, Repr

/-! ## The broadcast messages, by their fields

The manual gives the broadcast messages by their fields and not by their byte layout (scope file, "What the manual leaves out").  A cell
therefore carries, beside its 188 bytes, what the broadcast format makes of its payload: log entry 2. -/

/-- The fields of a key message (R85).  `event` is 0 for none.  `agreesWith` stands for the integrity check: the service keys with which
the engine's test of it agrees (log entry 2). -/
structure KeyMessage where
  serviceKeyId : Nat
  version : Nat
  accessClass : Nat
  event : Nat
  retain : Bool
  evenKey : Option WrappedKey
  oddKey : Option WrappedKey
  agreesWith : List ServiceKey
  deriving DecidableEq, Repr

/-- The address of an entitlement message (R102). -/
inductive Address where
  | unique (unit : Nat)
  | group (group lo hi : Nat)
  | all
  deriving DecidableEq, Repr

/-- The kind and body of an entitlement message (R102). -/
inductive EntitlementKind where
  | grant (cls expiry renewBy : Nat)
  | revoke (cls : Nat)
  | serviceKey (keyId : Nat) (key : ServiceKey) (validFrom validUntil : Nat)
  | credit (sequence amount : Nat)
  | groupAssign (group position : Nat)
  | clearAccount
  deriving DecidableEq, Repr

/-- An entitlement message (R102).  `genuine` says whether the integrity check agrees with the part's fixed function (R104, log entry 2). -/
structure EntitlementMessage where
  address : Address
  kind : EntitlementKind
  genuine : Bool
  deriving DecidableEq, Repr

/-- A multiplex entry of a service map as broadcast; `modulation` is none when it is neither Q64 nor Q256 (R26). -/
structure MuxEntry where
  index : Nat
  freq : Nat
  modulation : Option Modulation
  deriving DecidableEq, Repr

/-- One audio label with its 3-letter language code (R26). -/
structure Audio where
  label : Nat
  language : List Byte
  deriving DecidableEq, Repr

/-- A service entry of a service map as broadcast (R26). -/
structure ServiceEntry where
  number : Nat
  muxIndex : Nat
  video : Nat
  audios : List Audio
  captions : Option Nat
  keyLabel : Option Nat
  defaultClass : Nat
  deriving DecidableEq, Repr

/-- An event entry of an EVENT BLOCK as broadcast (R29, R30).  `series` is 0 for none. -/
structure EventEntry where
  eventId : Nat
  start : Nat
  duration : Nat
  rating : Nat
  categories : BitVec 8
  accessClass : Nat
  priceMode : PriceMode
  flatPrice : Nat
  rate : Nat
  interval : Span
  preview : Span
  cap : Nat
  copy : CopyControl
  title : List Byte
  series : Nat
  deriving DecidableEq, Repr

/-- An announced change of the local offset (R34). -/
structure OffsetChange where
  due : Nat
  offset : Int
  deriving DecidableEq, Repr

/-- The kind and fields of a complete guide section (R24). -/
inductive SectionBody where
  | serviceMap (version number last : Nat) (muxes : List MuxEntry) (services : List ServiceEntry)
  | eventBlock (version number last : Nat) (service : Nat) (entries : List EventEntry)
  | time (utc : Nat) (offset : Int) (change : Option OffsetChange)
  | other
  deriving DecidableEq, Repr

/-- A complete guide section: its fields and whether its check agrees with its contents (R24, log entry 2). -/
structure GuideSection where
  body : SectionBody
  checkAgrees : Bool
  deriving DecidableEq, Repr

/-- A transport cell (scope file, "Transport cells").  `image` is its 188 bytes; the named fields are what the part reads in them, whose
places the manual does not give.  The last five fields are what the broadcast format makes of the payload (log entry 2): how many payload
bytes it brings to a guide section, the total length a section states once this payload is collected, the section that the bytes collected
up to this payload form, and the key or entitlement message that the payload forms. -/
structure Cell where
  label : Nat
  scramble : Scramble
  count : Nat
  start : Bool
  image : CellImage
  payloadLength : Nat := 184
  statedTotal : Option Nat := none
  guideSection : Option GuideSection := none
  keyMessage : Option KeyMessage := none
  entitlement : Option EntitlementMessage := none
  deriving DecidableEq, Repr

/-! ## Request operands -/

/-- What every request frame carries beside the fields of its kind: its tag, and whether its body length is the length of that kind's body
(R195, R197). -/
structure Head where
  tag : Byte
  bodyFits : Bool
  deriving DecidableEq, Repr

/-- A record field as SET FIELDS carries it (R170, R171). -/
structure FieldSpec where
  base : Nat
  capacity : Nat
  deriving DecidableEq, Repr

/-- A set of fault classes as a request carries it; `others` says that it names anything other than the seven classes (R191, R192). -/
structure FaultSetArg where
  classes : List FaultClass
  others : Bool
  deriving DecidableEq, Repr

/-- The settings that SET PROFILE carries (R145). -/
structure ProfileSettings where
  ceiling : Nat
  blockUnrated : Bool
  blocked : BitVec 8
  allowance : Nat
  windowStart : Nat
  windowEnd : Nat
  mayPurchase : Bool
  spendCeiling : Nat
  deriving DecidableEq, Repr

/-- The event field that SEEK compares (R43). -/
inductive SeekField where
  | start | duration | rating | cls | flatPrice | priceMode | categories | series
  deriving DecidableEq, Repr

/-- The condition of a SEEK (R43). -/
inductive SeekCondition where
  | eq | ne | lt | le | gt | ge | anyOf | allOf | noneOf
  deriving DecidableEq, Repr

/-- The direction of a SEEK walk (R43). -/
inductive Direction where
  | forward | backward
  deriving DecidableEq, Repr

/-- The fields of a SEEK (R43).  `fromId` is 0 for none. -/
structure SeekQuery where
  service : Nat
  fromId : Nat
  fromStart : Nat
  direction : Direction
  includeFrom : Bool
  field : SeekField
  condition : SeekCondition
  value : Nat
  limit : Nat
  deriving DecidableEq, Repr

/-- Which of two actions that fall on one expiry of the Output Engines' seconds clock is taken first: R68 allows either (log entry 9). -/
inductive ExpiryOrder where
  | stopAtFirst | deepeningFirst
  deriving DecidableEq, Repr

/-! ## The commands -/

/-- The commands, one for each row of spec/opcode_table.json.  Output ids, service numbers and the like are carried as plain numbers,
because a request may carry any value and the part answers the ones out of range. -/
inductive Instr where
  -- link and start-up
  | nextNotice (h : Head)
  | identify (h : Head)
  | restart (h : Head)
  | deviceStatus (h : Head)
  | setLineup (h : Head) (mask : BitVec 8) (timeout : Nat)
  | setHome (h : Head) (freq : Nat) (modulation : Option Modulation) (guideLabel entitlementLabel : Nat)
  | setFields (h : Head) (r0 r1 : Option FieldSpec)
  | setPolicy (h : Head) (deepThreshold deepen : Span) (retention : Bool)
  | start (h : Head)
  | badFrame (period : List Byte)
  | unknownRequest (tag kind : Byte)
  | replyRead
  -- outputs
  | outputStatus (h : Head) (output : Nat)
  | tune (h : Head) (output service : Nat)
  | warm (h : Head) (output service : Nat)
  | audio (h : Head) (output index : Nat)
  | bind (h : Head) (output profile : Nat)
  | stopAt (h : Head) (output : Nat) (time : Option Nat)
  | rest (h : Head) (output : Nat) (tolerance : Span) (hold : Bool)
  | wake (h : Head) (output : Nat)
  | close (h : Head) (output : Nat)
  -- tuners, filter, keys
  | tuners (h : Head)
  | filter (h : Head) (input : Nat)
  | keySlots (h : Head)
  -- account and purchases
  | accountStatus (h : Head)
  | entitlements (h : Head) (first : Nat)
  | serviceKeyList (h : Head)
  | buy (h : Head) (output service event : Nat)
  | purchases (h : Head) (first : Nat)
  -- guide
  | guideStatus (h : Head)
  | seek (h : Head) (q : SeekQuery)
  | multiplexes (h : Head)
  | services (h : Head) (first : Nat)
  | event (h : Head) (service event : Nat)
  -- parental
  | setProfile (h : Head) (profile : Nat) (code : Code) (newCode : Option Code) (settings : ProfileSettings)
  | getProfile (h : Head) (profile : Nat)
  | flipCategories (h : Head) (profile : Nat) (mask : BitVec 8) (code : Code)
  | unlock (h : Head) (output : Nat) (code : Code)
  -- recording
  | recordStart (h : Head) (output service : Nat)
  | recordStop (h : Head) (output : Nat)
  | drain (h : Head) (output half : Nat)
  | ringStatus (h : Head) (output : Nat)
  -- faults
  | contain (h : Head) (output : Nat)
  | release (h : Head) (output : Nat)
  | clearFaults (h : Head) (output : Nat) (classes : FaultSetArg)
  | faultPolicy (h : Head) (output : Nat) (mask contain : FaultSetArg) (enable : Bool)
  | faultReport (h : Head) (output : Nat)
  -- events at the ports, the engine and the clocks
  | resetLine
  | lockReport (t : TunerId) (report : BitVec 64)
  | lockTimerExpiry (t : TunerId)
  | retryTimerExpiry (t : TunerId)
  | cellArrival (i : TunerId) (c : Cell)
  | outputCellCopy (feed : Feed) (role : Role) (c : Cell)
  | keyMessageCell (i : TunerId) (c : Cell)
  | entitlementMessageCell (i : TunerId) (c : Cell)
  | guideCell (i : TunerId) (c : Cell)
  | unwrapCompletion
  | drainCompletion (r : RecId)
  | guideSecondsExpiry
  | outputEnginesSecondsExpiry (order : ExpiryOrder)
  | entitlementSecondsExpiry
  | purchaseSecondsExpiry
  | parentalSecondsExpiry
  | ringWriterSecondsExpiry
  | drainUnitSent (r : RecId)
  | selectPeriodStart
  deriving DecidableEq, Repr

end Sys2Proof
end

