-- ==== Sys2Proof/Machine/State.lean ====
section
/-! DEFINITION. The state of the Gobard 4860, block by block, as plain data; the reply and notice records it holds; the two reasons a
step can stop; and the state right after reset. -/

namespace Sys2Proof.Machine

/-! ## Tuner Pool (R1) -/

/-- The states of a tuner (R1). -/
inductive TunerState where
  | free | tuning | locked | retry | absent
  deriving DecidableEq, Repr

/-- The classes of a holder, from strongest to weakest (R3). -/
inductive HolderClass where
  | primary | warm | guide
  deriving DecidableEq, Repr

/-- The eleven possible holders of a tuner (R3). -/
inductive HolderId where
  | ctx (c : CtxId)
  | acquirer
  deriving DecidableEq, Repr

/-- One entry of a holder list (R1). -/
structure Holder where
  who : HolderId
  cls : HolderClass
  deriving DecidableEq, Repr

/-- Which timer a tuner's one timer runs as (R10). -/
inductive TimerKind where
  | lock | retry
  deriving DecidableEq, Repr

/-- A running timer and the whole milliseconds left (R1, R12). -/
structure Timer where
  kind : TimerKind
  left : Nat
  deriving DecidableEq, Repr

/-- A tuner record (R1).  `timer` is none when the timer is stopped. -/
structure Tuner where
  state : TunerState
  mux : Option Mux
  order : Nat
  holders : List Holder
  timer : Option Timer
  deriving DecidableEq, Repr

/-- The Tuner Pool: its records and the lock timeout in milliseconds (R1, R2).  The present-tuners mask is read off the records: a tuner
is absent exactly when its flag is clear (`TunerPool.presentMask`). -/
structure TunerPool where
  tuners : Vector Tuner 8
  lockTimeout : Nat
  deriving DecidableEq, Repr

/-! ## Cell Filter (R13) -/

/-- A destination of a label table entry (R13). -/
inductive Dest where
  | ctx (c : CtxId) (r : Role)
  | entitlement
  | guide
  deriving DecidableEq, Repr

/-- An entry of a label table; the destination set is a list without repeats, in the order of `Dest.all` (R13). -/
structure LabelEntry where
  label : Nat
  dests : List Dest
  expect : Option Nat
  deriving DecidableEq, Repr

/-- Where a copy at the Output Engines stands among those of its cell for its context: the first of them, a further one, or a further one of a
cell that has raised KEY GAP (the model's own, for R184's 'once per cell'; log entry 37). -/
inductive CopyMark where
  | first | later | raised
  deriving DecidableEq, Repr

/-- A copy of a cell between the Cell Filter and the block it goes to (R16), with the input it arrived on and its tags: the context and the
role for the Output Engines, and the model's mark; for the Key Unit the multiplex of the input's tuner and the contexts that list the label in the key role, whose
copies of one cell are one arrival there (R84).  The label is the cell's own. -/
inductive Copy where
  | output (i : TunerId) (ctx : CtxId) (role : Role) (c : Cell) (mark : CopyMark)
  | key (i : TunerId) (mux : Option Mux) (contexts : List CtxId) (c : Cell)
  | entitlement (i : TunerId) (c : Cell)
  | guide (i : TunerId) (c : Cell)
  deriving DecidableEq, Repr

/-- The Cell Filter: one label table per input, each in ascending label order, and the copies on their way in the order of their arrival
(R13, R16; log entry 3). -/
structure CellFilter where
  tables : Vector (List LabelEntry) 8
  copies : List Copy
  deriving DecidableEq, Repr

/-! ## Output Engines (R47, R61, R58, R183) -/

/-- The signal status of a context that holds a tuner (R49). -/
inductive Signal where
  | pending | locked | notLocked
  deriving DecidableEq, Repr

/-- A key slot and the generation it was given at (R47). -/
structure SlotRef where
  slot : SlotId
  generation : Nat
  deriving DecidableEq, Repr

/-- A service part that is not empty (R47); an empty one is `none`. -/
structure ServicePart where
  service : Nat
  version : Nat
  muxIndex : Nat
  tuner : Option TunerId
  signal : Option Signal
  video : Nat
  audioIndex : Nat
  audioLabel : Nat
  captions : Option Nat
  keyLabel : Option Nat
  slot : Option SlotRef
  deriving DecidableEq, Repr

/-- The current event of an output (R38). -/
structure CurrentEvent where
  service : Nat
  eventId : Nat
  start : Nat
  finish : Nat
  deriving DecidableEq, Repr

/-- The pass verdicts (R157). -/
inductive Pass where
  | freeView | entitled | preview | paid | metered
  deriving DecidableEq, Repr

/-- The held reasons (R157). -/
inductive Held where
  | noSignal | noService | outsideWindow | allowanceSpent | unrated | rating | category | copyBlocked | notEntitled | needsPurchase
  | creditExhausted | noKey
  deriving DecidableEq, Repr

/-- A verdict that is not none (R157). -/
inductive Verdict where
  | pass (p : Pass)
  | held (h : Held)
  deriving DecidableEq, Repr

/-- The delivery states of an output (R50). -/
inductive Delivery where
  | off | restLight | restDeep | contained | tuning | keying | live
  | held (h : Held)
  deriving DecidableEq, Repr

/-- The rest level of an output, an input of R50. -/
inductive RestLevel where
  | awake | light | deep
  deriving DecidableEq, Repr

/-- The scope of an override (R155). -/
inductive Scope where
  | content | all
  deriving DecidableEq, Repr

/-- An override with its scope and binding (R155). -/
structure Override where
  scope : Scope
  service : Nat
  eventId : Option Nat
  deriving DecidableEq, Repr

/-- Why an output is contained (R183). -/
inductive ContainReason where
  | fault (c : FaultClass)
  | request
  deriving DecidableEq, Repr

/-- A fault log record (R183). -/
structure FaultLog where
  cls : FaultClass
  utc : Option Nat
  tuner : Option TunerId
  label : Nat
  eventId : Option Nat
  slot : Option SlotId
  deriving DecidableEq, Repr

/-- The fault block of an output; the sets are lists without repeats, in the order of `FaultClass.all` (R183). -/
structure FaultBlock where
  mask : List FaultClass
  contain : List FaultClass
  enable : Bool
  status : List FaultClass
  pointer : Option FaultClass
  log : Option FaultLog
  reason : Option ContainReason
  deriving DecidableEq, Repr

/-- An output context (R47).  The bound profile stands in `Engines.bound`. -/
structure Output where
  part : Option ServicePart
  current : Option CurrentEvent
  verdict : Option Verdict
  delivery : Delivery
  restLevel : RestLevel
  tolerance : Option Span
  hold : Bool
  restSeconds : Nat
  stopAt : Option Nat
  override : Option Override
  silence : Nat
  fault : FaultBlock
  deriving DecidableEq, Repr

/-- The states of a warm context (R61). -/
inductive WarmState where
  | empty | preparing | ready | cold
  deriving DecidableEq, Repr

/-- A warm context (R61). -/
structure Warm where
  state : WarmState
  part : Option ServicePart
  deriving DecidableEq, Repr

/-- A recall record (R58). -/
structure RecallRecord where
  service : Nat
  version : Nat
  video : Nat
  audioIndex : Nat
  audioLabel : Nat
  captions : Option Nat
  keyLabel : Option Nat
  lastKeyVersion : Option Nat
  deriving DecidableEq, Repr

/-- The Output Engines: six output contexts, four bound profiles (non-volatile), four warm contexts, four recall stacks with rank 0 first,
and the two rest policy spans (R47). -/
structure Engines where
  outputs : Vector Output 6
  bound : Vector ProfileId 4
  warms : Vector Warm 4
  recalls : Vector (List RecallRecord) 4
  deepThreshold : Span
  deepen : Span
  deriving DecidableEq, Repr

/-! ## Key Unit (R78) -/

/-- The states of a key slot (R78). -/
inductive SlotState where
  | free | await | unwrap | live | retained
  deriving DecidableEq, Repr

/-- A slot's tag: multiplex index and key message label (R78). -/
structure KeyTag where
  muxIndex : Nat
  label : Nat
  deriving DecidableEq, Repr

/-- The outcome of a refused unwrap (R78, R92). -/
inductive RefusalMark where
  | noServiceKey | notEntitled | integrityFail
  deriving DecidableEq, Repr

/-- A key slot; the users are a list without repeats, in the order of `CtxId.all` (R78). -/
structure KeySlot where
  state : SlotState
  tag : Option KeyTag
  generation : Nat
  users : List CtxId
  evenKey : Option ControlKey
  oddKey : Option ControlKey
  parity : Option Parity
  lastVersion : Option Nat
  retain : Bool
  mark : Option RefusalMark
  deriving DecidableEq, Repr

/-- An entry of the key queue (R87). -/
structure QueueEntry where
  slot : SlotId
  generation : Nat
  message : KeyMessage
  arrival : Nat
  deriving DecidableEq, Repr

/-- The unwrap in flight (R89). -/
structure Unwrap where
  slot : SlotId
  generation : Nat
  message : KeyMessage
  deriving DecidableEq, Repr

/-- The Key Unit: slots, the retained order (earliest entry first), the key queue in arrival order, the next arrival number, the engine
(none when idle) and the key retention setting (R78, R80, R87, R89). -/
structure KeyUnit where
  slots : Vector KeySlot 16
  retained : List SlotId
  queue : List QueueEntry
  nextArrival : Nat
  engine : Option Unwrap
  retention : Bool
  deriving DecidableEq, Repr

/-! ## Entitlement Store (R99) -/

/-- An entitlement entry (R99). -/
structure Entitlement where
  cls : Nat
  expiry : Nat
  renewBy : Nat
  deriving DecidableEq, Repr

/-- A service key record (R99). -/
structure ServiceKeyRecord where
  keyId : Nat
  key : ServiceKey
  validFrom : Nat
  validUntil : Nat
  deriving DecidableEq, Repr

/-- A group membership (R99). -/
structure Membership where
  group : Nat
  position : Nat
  deriving DecidableEq, Repr

/-- The account: the entitlement table in ascending class, the service key table in ascending id, the purse with the last credit
sequence, the group membership, the unit address and the integrity failure count (R99). -/
structure Account where
  entitlements : List Entitlement
  serviceKeys : List ServiceKeyRecord
  purse : Nat
  sequence : Option Nat
  group : Option Membership
  unitAddress : Nat
  integrityFailures : Nat
  deriving DecidableEq, Repr

/-! ## Purchase Unit (R120) -/

/-- The states of a purchase record (R120). -/
inductive PurchaseState where
  | offered | paid | metering | paidInFull
  deriving DecidableEq, Repr

/-- The two price modes a purchase record can have (R120). -/
inductive PayMode where
  | flat | metered
  deriving DecidableEq, Repr

/-- The copied price terms of a purchase record, its end time among them (R120). -/
structure Terms where
  mode : PayMode
  flatPrice : Nat
  rate : Nat
  interval : Span
  preview : Span
  cap : Nat
  finish : Nat
  deriving DecidableEq, Repr

/-- A purchase record (R120): q is `charged`, k is `taken`, v is `clock`. -/
structure Purchase where
  service : Nat
  eventId : Nat
  terms : Terms
  state : PurchaseState
  charged : Nat
  taken : Nat
  clock : Nat
  exhausted : Bool
  buyer : Option ProfileId
  deriving DecidableEq, Repr

/-! ## Guide Store (R19) -/

/-- The states of the acquirer (R20). -/
inductive AcquirerState where
  | idle | waitTuner | tuning | collecting | paused
  deriving DecidableEq, Repr

/-- The acquirer and the tuner it holds (R20). -/
structure Acquirer where
  state : AcquirerState
  tuner : Option TunerId
  deriving DecidableEq, Repr

/-- A partial section: the cells it was begun and continued with, the payload bytes collected, and the total length it states, none until
it has been read (R23; log entry 2). -/
structure PartialSection where
  images : List CellImage
  collected : Nat
  total : Option Nat
  deriving DecidableEq, Repr

/-- The assembly of one input (R23). -/
structure Assembly where
  partialSection : Option PartialSection
  last : Option Nat
  deriving DecidableEq, Repr

/-- A multiplex table entry (R26). -/
structure Multiplex where
  index : Nat
  mux : Mux
  deriving DecidableEq, Repr

/-- A service record (R26). -/
structure Service where
  number : Nat
  muxIndex : Nat
  video : Nat
  audios : List Audio
  captions : Option Nat
  keyLabel : Option Nat
  defaultClass : Nat
  version : Nat
  deriving DecidableEq, Repr

/-- One SERVICE MAP section held in the pending map (R25, R26). -/
structure MapSection where
  number : Nat
  muxes : List MuxEntry
  services : List ServiceEntry
  deriving DecidableEq, Repr

/-- The pending map, its sections in ascending number (R25). -/
structure PendingMap where
  version : Nat
  last : Nat
  parts : List MapSection
  deriving DecidableEq, Repr

/-- An event record (R29). -/
structure Event where
  eventId : Nat
  start : Nat
  duration : Nat
  rating : Nat
  categories : BitVec 8
  accessClass : Nat
  priceMode : PriceMode
  flatPrice : Nat
  rate : Nat
  interval : Span
  preview : Span
  cap : Nat
  copy : CopyControl
  version : Nat
  title : List Byte
  series : Option Nat
  deriving DecidableEq, Repr

/-- An event of the pool with the service it is kept under (R29). -/
structure PoolEvent where
  service : Nat
  event : Event
  deriving DecidableEq, Repr

/-- The time base (R19, R34). -/
structure TimeBase where
  utc : Option Nat
  offset : Int
  change : Option OffsetChange
  deriving DecidableEq, Repr

/-- The Guide Store; the pool is held in ascending service number and, within one service, in start order (R19, R32). -/
structure Guide where
  acquirer : Acquirer
  assemblies : Vector Assembly 8
  mapVersion : Option Nat
  pendingMap : Option PendingMap
  muxes : List Multiplex
  services : List Service
  pool : List PoolEvent
  time : TimeBase
  deriving DecidableEq, Repr

/-! ## Parental Unit (R141) -/

/-- A viewer profile (R141). -/
structure Profile where
  code : Option Code
  settings : ProfileSettings
  spent : Nat
  day : Int
  wrongCodes : Nat
  lockout : Nat
  deriving DecidableEq, Repr

/-! ## Ring Writer (R170) -/

/-- The states of a half (R170). -/
inductive HalfState where
  | free | filling | full | draining
  deriving DecidableEq, Repr

/-- A half of a record field (R170). -/
structure Half where
  state : HalfState
  count : Nat
  copy : Option CopyControl
  first : Option Nat
  last : Option Nat
  deriving DecidableEq, Repr

/-- The writer of a record output (R170).  A waiting writer names the half it waits on, none when it waits on whichever drain completes
first (R175), and whether the first cell of this wait has been discarded (R176). -/
inductive Writer where
  | idle
  | writing (h : HalfId)
  | waiting (on : Option HalfId) (overrun : Bool)
  deriving DecidableEq, Repr

/-- A drain in flight (R170). -/
structure Drain where
  half : HalfId
  sent : Nat
  deriving DecidableEq, Repr

/-- The record of one record output in the Ring Writer (R170). -/
structure Ring where
  field : Option FieldSpec
  halves : Vector Half 2
  writer : Writer
  lastFilled : Option HalfId
  drain : Option Drain
  deriving DecidableEq, Repr

/-- The 512 MiB buffer memory, byte by byte: the bytes that have been written, addresses strictly rising (R170; log entry 5). -/
structure Memory where
  cells : List Host.Cell
  deriving DecidableEq, Repr

/-- The Ring Writer: one record per record output, the shared stamp count, and the buffer memory (R170). -/
structure RingWriter where
  rings : Vector Ring 2
  stamp : Nat
  memory : Memory
  deriving DecidableEq, Repr

/-! ## Ports -/

/-- An order on a tuning line (R8). -/
inductive Order where
  | tune (number : Nat) (mux : Mux)
  | halt (number : Nat)
  deriving DecidableEq, Repr

/-- An item on a record stream port (R178). -/
inductive RecordItem where
  | header (output : RecId) (half : HalfId) (copy : CopyControl) (count first last : Nat)
  | unit (bytes : List Byte)
  | endMark (output : RecId) (half : HalfId) (sent : Nat)
  | abortMark (output : RecId) (half : HalfId) (sent : Nat)
  deriving DecidableEq, Repr

/-- What the part has sent out of its ports, oldest first: the tuning lines, the presentation stream ports and the record stream ports
(the model's own record of them; log entry 4). -/
structure Ports where
  tuning : Vector (List Order) 8
  presentation : Vector (List Cell) 4
  record : Vector (List RecordItem) 2
  deriving DecidableEq, Repr

/-! ## Link Controller: notices (R198) -/

/-- A notice's kind and subject (R198). -/
inductive NoticeKey where
  | output (o : OutId)
  | warm (p : PresId)
  | ring (r : RecId)
  | fault (o : OutId)
  | guide | time | account | purchase | started
  deriving DecidableEq, Repr

/-- The cause of an ACCOUNT notice (R116). -/
inductive AccountCause where
  | message | lapse | debit | integrityFail
  deriving DecidableEq, Repr

/-- The cause of a PURCHASE notice (R139). -/
inductive PurchaseCause where
  | offered | previewSpent | bought | charged | exhausted | resumed | paidInFull | removed | cleared
  deriving DecidableEq, Repr

/-- The record that a PURCHASE notice and the reply to BUY give (R126, R139). -/
structure PurchaseView where
  service : Nat
  eventId : Nat
  state : PurchaseState
  charged : Nat
  taken : Nat
  clock : Nat
  exhausted : Bool
  deriving DecidableEq, Repr

/-- The writer's state as the host reads it: the FILLING half where it is WRITING, and nothing beside the state elsewhere (R181, R182). -/
inductive WriterView where
  | idle
  | writing (h : HalfId)
  | waiting
  deriving DecidableEq, Repr

/-- A notice's body (R33, R37, R64, R116, R139, R169, R181, R193, R202). -/
inductive NoticeBody where
  | output (o : OutId) (delivery : Delivery) (verdict : Option Verdict) (service : Option Nat) (eventId : Option Nat)
      (mark : Option RefusalMark) (contained : Bool) (reason : Option ContainReason)
  | warm (p : PresId) (state : WarmState) (service : Option Nat) (tuner : Option TunerId) (slot : Option SlotId)
  | ring (r : RecId) (writer : WriterView) (halves : List (HalfState × Nat)) (draining : Option HalfId)
  | fault (o : OutId) (status : List FaultClass) (pointer : Option FaultClass) (latest : Option FaultClass)
      (reason : Option ContainReason)
  | guide (acquirer : Acquirer) (mapVersion : Option Nat) (muxes services events : Nat)
  | time (utc : Option Nat) (offset : Int) (change : Option OffsetChange) (day : Option Int) (minute : Option Nat)
  | account (purse : Nat) (sequence : Option Nat) (entitlements serviceKeys : Nat) (group : Option Membership)
      (integrityFailures : Nat) (cause : AccountCause)
  | purchase (records : Nat) (cause : PurchaseCause) (record : Option PurchaseView) (purse : Nat)
  | started (mapVersion : Option Nat) (utc : Option Nat)
  deriving DecidableEq, Repr

/-- A notice of the queue (R198). -/
structure Notice where
  key : NoticeKey
  body : NoticeBody
  deriving DecidableEq, Repr

/-! ## Link Controller: replies (R197) -/

/-- The refusal codes (R197). -/
inductive RefusalCode where
  | badFrame | unknownRequest | badArgument | order | wrongState | notReady | unknownService | unknownEvent | noTuner | wrongCode
  | lockedOut | notPermitted | creditLow | listFull | priceInvalid | alreadyBought | drainBusy | notContained | overlap
  deriving DecidableEq, Repr

/-- The device state (R200). -/
inductive Device where
  | unconfigured
  | configuring (stage : Nat)
  | starting
  | running
  deriving DecidableEq, Repr

/-- What OUTPUT STATUS returns (R77). -/
structure OutputView where
  profile : Option ProfileId
  current : Option CurrentEvent
  verdict : Option Verdict
  delivery : Delivery
  tolerance : Option Span
  hold : Bool
  restSeconds : Nat
  stopAt : Option Nat
  scope : Option Scope
  silence : Nat
  status : List FaultClass
  pointer : Option FaultClass
  part : Option ServicePart
  warm : Option Warm
  recalls : List RecallRecord
  deriving DecidableEq, Repr

/-- One slot entry of KEY SLOTS: whether keys are held, never the keys (R98). -/
structure SlotView where
  state : SlotState
  tag : Option KeyTag
  generation : Nat
  users : List CtxId
  hasEven : Bool
  hasOdd : Bool
  parity : Option Parity
  lastVersion : Option Nat
  retain : Bool
  mark : Option RefusalMark
  retainedPlace : Option Nat
  deriving DecidableEq, Repr

/-- One queue entry of KEY SLOTS (R98).  `eventId` is 0 for none. -/
structure QueueView where
  slot : SlotId
  generation : Nat
  version : Nat
  serviceKeyId : Nat
  accessClass : Nat
  eventId : Nat
  deriving DecidableEq, Repr

/-- The engine as KEY SLOTS shows it when busy (R98). -/
structure EngineView where
  slot : SlotId
  generation : Nat
  version : Nat
  deriving DecidableEq, Repr

/-- What RING STATUS returns of a record output (R182). -/
structure RingView where
  field : Option FieldSpec
  halves : Vector Half 2
  writer : WriterView
  lastFilled : Option HalfId
  drain : Option Drain
  deriving DecidableEq, Repr

/-- The outcome of a SEEK (R46). -/
inductive SeekOutcome where
  | found (eventId start examined remaining : Nat)
  | limit (eventId start examined : Nat)
  | finished (examined : Nat)
  deriving DecidableEq, Repr

/-- The body of a DATA reply, by the request it answers (R197 and the request's own rule). -/
inductive Data where
  | notice (n : Notice)
  | noNotice
  | identity (vendor part : BitVec 16) (revision unitAddress : Nat)
  | deviceStatus (device : Device) (timeSet mapApplied : Bool) (notices : Nat) (attention : Bool)
  | outputStatus (o : OutId) (v : OutputView)
  | tuners (l : List Tuner)
  | filter (l : List LabelEntry)
  | keySlots (slots : List SlotView) (queue : List QueueView) (engine : Option EngineView) (retention : Bool)
  | accountStatus (unitAddress : Nat) (group : Option Membership) (purse : Nat) (sequence : Option Nat)
      (entitlements serviceKeys integrityFailures : Nat) (timeSet : Bool)
  | entitlements (l : List (Entitlement × Bool)) (more : Bool)
  | serviceKeys (l : List (Nat × Nat × Nat × Bool))
  | bought (record : PurchaseView) (purse : Nat)
  | purchases (l : List (Purchase × Option Nat)) (more : Bool)
  | guideStatus (acquirer : Acquirer) (mapVersion : Option Nat) (pendingMap : Option (Nat × Nat × Nat))
      (muxes services events : Nat) (time : TimeBase) (day : Option Int) (minute : Option Nat)
  | seek (r : SeekOutcome)
  | multiplexes (l : List Multiplex)
  | services (l : List Service) (more : Bool)
  | event (e : Event)
  | profile (settings : ProfileSettings) (codeSet : Bool) (spent : Nat) (day : Int) (wrongCodes lockout : Nat) (isSpent : Bool)
      (bound : List PresId)
  | ring (r : RingView) (stamp : Nat)
  | faultReport (f : FaultBlock)
  deriving DecidableEq, Repr

/-- The three kinds of reply (R197). -/
inductive ReplyBody where
  | ack
  | data (d : Data)
  | refused (c : RefusalCode)
  deriving DecidableEq, Repr

/-- A reply frame: the tag it echoes and its body (R197). -/
structure Reply where
  tag : Byte
  body : ReplyBody
  deriving DecidableEq, Repr

/-- What SET HOME sets (R201). -/
structure Home where
  mux : Mux
  guideLabel : Nat
  entitlementLabel : Nat
  deriving DecidableEq, Repr

/-- The Link Controller: device state, reply slot, the frame this select period clocks out, whether the slot still holds that frame, whether
this select period has carried its one request or bad frame, so that the rest of it is ignored, the notice queue (oldest first), the values of
SET HOME, and the part's revision number (R195, R196, R198, R200, R201, R203). -/
structure Link where
  device : Device
  slot : Option Reply
  clocking : Option Reply
  clockingSlot : Bool
  periodSpent : Bool
  notices : List Notice
  home : Option Home
  revision : Nat
  deriving DecidableEq, Repr

/-! ## The whole state -/

/-- Everything the part holds; one field per block of the scope file's block table, the record of its ports beside them. -/
structure Block where
  link : Link
  pool : TunerPool
  filter : CellFilter
  engines : Engines
  keys : KeyUnit
  account : Account
  purchases : List Purchase
  guide : Guide
  profiles : Vector Profile 8
  ringWriter : RingWriter
  ports : Ports
  deriving DecidableEq, Repr

/-- The block and the queue of the commands waiting for it, first in, first out. -/
structure State extends Block where
  pending : List Instr
  deriving DecidableEq, Repr

/-- The faults of the model. -/
inductive Fault where
  /-- Raised by a drain that reads a byte of buffer memory which nothing has written (log entry 5).  No drain of a half that the writer
  filled reads such a byte.  Safe: the machine stops where the hardware would send some byte. -/
  | bufferByteUnwritten (address : Nat)
  deriving DecidableEq, Repr

/-- The refusals of the model. -/
inductive Refusal where
  /-- Raised by `exec` for a command that has no meaning yet, by its mnemonic.  Safe. -/
  | notModelled (mnemonic : String)
  deriving DecidableEq, Repr

/-! ## Reset -/

/-- A tuner right after power has been applied: FREE, with the HALT ORDER of the reset line sent as order number 1 (R1, R2, R8). -/
def Tuner.afterPowerOn : Tuner :=
  { state := .free, mux := none, order := 1, holders := [], timer := none }

/-- The default fault policy with nothing recorded (R183). -/
def FaultBlock.afterReset : FaultBlock :=
  { mask := [], contain := [.keyIntegrity, .copyViolation], enable := true, status := [], pointer := none, log := none, reason := none }

/-- An output context after the reset line (R48). -/
def Output.afterReset : Output :=
  { part := none, current := none, verdict := none, delivery := .off, restLevel := .awake, tolerance := none, hold := false,
    restSeconds := 0, stopAt := none, override := none, silence := 0, fault := FaultBlock.afterReset }

/-- An EMPTY warm context (R48, R61). -/
def Warm.emptied : Warm := { state := .empty, part := none }

/-- The span of length 0 that the deep threshold and the deepen span take at the reset line (R48; its scale is log entry 12). -/
def Span.zero : Span := { value := 0, scale := 0 }

/-- A FREE key slot with a given generation (R78, R97). -/
def KeySlot.freed (generation : Nat) : KeySlot :=
  { state := .free, tag := none, generation := generation, users := [], evenKey := none, oddKey := none, parity := none,
    lastVersion := none, retain := false, mark := none }

/-- The factory settings of a profile (R141). -/
def ProfileSettings.factory (mayPurchase : Bool) (spendCeiling : Nat) : ProfileSettings :=
  { ceiling := 15, blockUnrated := false, blocked := 0, allowance := 1440, windowStart := 0, windowEnd := 0,
    mayPurchase := mayPurchase, spendCeiling := spendCeiling }

/-- A profile in factory state (R141). -/
def Profile.factory (mayPurchase : Bool) (spendCeiling : Nat) : Profile :=
  { code := none, settings := ProfileSettings.factory mayPurchase spendCeiling, spent := 0, day := 0, wrongCodes := 0, lockout := 0 }

/-- A FREE half (R170). -/
def Half.freed : Half := { state := .free, count := 0, copy := none, first := none, last := none }

/-- A record output's record in the Ring Writer with a given field, nothing stored and nothing running (R170). -/
def Ring.cleared (field : Option FieldSpec) : Ring :=
  { field := field, halves := Vector.replicate 2 Half.freed, writer := .idle, lastFilled := none, drain := none }

/-- An assembly with nothing collected (R19). -/
def Assembly.cleared : Assembly := { partialSection := none, last := none }

/-- The Guide Store after the reset line (R19). -/
def Guide.afterReset : Guide :=
  { acquirer := { state := .idle, tuner := none }, assemblies := Vector.replicate 8 Assembly.cleared, mapVersion := none,
    pendingMap := none, muxes := [], services := [], pool := [], time := { utc := none, offset := 0, change := none } }

/-- The account in factory state (R99).  The unit address is fixed at manufacture and the manual gives none: 0 is DESIGN CHOICE, log
entry 6. -/
def Account.factory : Account :=
  { entitlements := [], serviceKeys := [], purse := 0, sequence := none, group := none, unitAddress := 0, integrityFailures := 0 }

/-- Every part of the block right after power has been applied to a part in factory state, which acts as the reset line (R204).  DESIGN CHOICE:
the select period that goes on at reset is one that has carried no request yet (log entry 39). -/
def Block.reset : Block :=
  { link := { device := .unconfigured, slot := none, clocking := none, clockingSlot := false, periodSpent := false,
              notices := [], home := none, revision := 1 }
    pool := { tuners := Vector.replicate 8 Tuner.afterPowerOn, lockTimeout := 1500 }
    filter := { tables := Vector.replicate 8 [], copies := [] }
    engines := { outputs := Vector.replicate 6 Output.afterReset, bound := Vector.replicate 4 0,
                 warms := Vector.replicate 4 Warm.emptied, recalls := Vector.replicate 4 [],
                 deepThreshold := Span.zero, deepen := Span.zero }
    keys := { slots := Vector.replicate 16 (KeySlot.freed 0), retained := [], queue := [], nextArrival := 1, engine := none,
              retention := false }
    account := Account.factory
    purchases := []
    guide := Guide.afterReset
    profiles := #v[Profile.factory true 65535, Profile.factory false 0, Profile.factory false 0, Profile.factory false 0,
                   Profile.factory false 0, Profile.factory false 0, Profile.factory false 0, Profile.factory false 0]
    ringWriter := { rings := Vector.replicate 2 (Ring.cleared none), stamp := 0, memory := { cells := [] } }
    ports := { tuning := Vector.replicate 8 [.halt 1], presentation := Vector.replicate 4 [], record := Vector.replicate 2 [] } }

/-- The machine right after reset: the block after power has been applied, and no command waiting. -/
def State.reset : State := { Block.reset with pending := [] }

end Sys2Proof.Machine
end

