-- ==== Sys2Proof/Machine/Ops.lean ====
section
/-! DEFINITION. Shared operations: access to the parts of the block, numbers to names, finite sets in their one order, replies, and
the posting of notices. -/

namespace Sys2Proof.Machine

/-! ## Vectors and finite sets -/

/-- `v` with place `i` replaced. -/
def vset {α : Type} {n : Nat} (v : Vector α n) (i : Fin n) (x : α) : Vector α n :=
  v.set i.val x i.isLt

/-- The ten contexts, in the one order in which sets of them are held. -/
def CtxId.all : List CtxId :=
  (List.finRange 6).map .out ++ (List.finRange 4).map .warm

/-- The four roles. -/
def Role.all : List Role := [.video, .audio, .captions, .key]

/-- All destinations, in the one order in which sets of them are held (R13). -/
def Dest.all : List Dest :=
  (CtxId.all.map fun c => Role.all.map (Dest.ctx c)).flatten ++ [.entitlement, .guide]

/-- The seven fault classes, in the one order in which sets of them are held (R184). -/
def FaultClass.all : List FaultClass :=
  [.keyIntegrity, .keyGap, .continuity, .signalLoss, .streamSilence, .copyViolation, .ringOverrun]

/-- The members of `univ` that are in `l`: the one form of a finite set. -/
def canon {α : Type} [DecidableEq α] (univ l : List α) : List α :=
  univ.filter (fun x => decide (x ∈ l))

/-- The set `l` with `x` added, in its one form. -/
def insertIn {α : Type} [DecidableEq α] (univ : List α) (x : α) (l : List α) : List α :=
  canon univ (x :: l)

/-- The set `l` without `x`. -/
def removeFrom {α : Type} [DecidableEq α] (x : α) (l : List α) : List α :=
  l.filter (fun y => decide (y ≠ x))

/-! ## Numbers to names -/

/-- The output that an output id names, none for an id that names no output (R77). -/
def outId? (n : Nat) : Option OutId :=
  if h : n < 6 then some ⟨n, h⟩ else none

/-- The presentation output that an output id names (R53). -/
def presId? (n : Nat) : Option PresId :=
  if h : n < 4 then some ⟨n, h⟩ else none

/-- The record output that an output id names: 4 is R0 and 5 is R1 (R172, with the numbers of R198; log entry 7). -/
def recId? (n : Nat) : Option RecId :=
  if n = 4 then some 0 else if n = 5 then some 1 else none

/-- The half that a number names (R177). -/
def halfId? (n : Nat) : Option HalfId :=
  if h : n < 2 then some ⟨n, h⟩ else none

/-- The profile that a number names (R66). -/
def profileId? (n : Nat) : Option ProfileId :=
  if h : n < 8 then some ⟨n, h⟩ else none

/-- The input that a number names (R18). -/
def inputId? (n : Nat) : Option TunerId :=
  if h : n < 8 then some ⟨n, h⟩ else none

/-- The output context of a presentation output. -/
def presOut (p : PresId) : OutId := ⟨p.val, by omega⟩

/-- The output context of a record output. -/
def recOut (r : RecId) : OutId := ⟨r.val + 4, by omega⟩

/-- The presentation output that an output is, none for a record output. -/
def outPres? (o : OutId) : Option PresId := presId? o.val

/-- The record output that an output is, none for a presentation output. -/
def outRec? (o : OutId) : Option RecId := recId? o.val

/-- All outputs, in the order P0 to P3, R0, R1 (R158). -/
def outIds : List OutId := List.finRange 6

/-- All presentation outputs in order. -/
def presIds : List PresId := List.finRange 4

/-- All tuners in order. -/
def tunerIds : List TunerId := List.finRange 8

/-- All key slots in order. -/
def slotIds : List SlotId := List.finRange 16

/-- All profiles in order. -/
def profileIds : List ProfileId := List.finRange 8

/-! ## Access to the parts of the block -/

/-- Tuner record `t`. -/
def Block.tuner (b : Block) (t : TunerId) : Tuner := b.pool.tuners.get t

/-- The block with tuner record `t` replaced. -/
def Block.setTuner (b : Block) (t : TunerId) (x : Tuner) : Block :=
  { b with pool := { b.pool with tuners := vset b.pool.tuners t x } }

/-- The label table of input `i`. -/
def Block.table (b : Block) (i : TunerId) : List LabelEntry := b.filter.tables.get i

/-- The block with the label table of input `i` replaced. -/
def Block.setTable (b : Block) (i : TunerId) (x : List LabelEntry) : Block :=
  { b with filter := { b.filter with tables := vset b.filter.tables i x } }

/-- Output context `o`. -/
def Block.out (b : Block) (o : OutId) : Output := b.engines.outputs.get o

/-- The block with output context `o` replaced. -/
def Block.setOut (b : Block) (o : OutId) (x : Output) : Block :=
  { b with engines := { b.engines with outputs := vset b.engines.outputs o x } }

/-- Warm context of presentation output `p`. -/
def Block.warm (b : Block) (p : PresId) : Warm := b.engines.warms.get p

/-- The block with a warm context replaced. -/
def Block.setWarm (b : Block) (p : PresId) (x : Warm) : Block :=
  { b with engines := { b.engines with warms := vset b.engines.warms p x } }

/-- Recall stack of presentation output `p`, rank 0 first. -/
def Block.recalls (b : Block) (p : PresId) : List RecallRecord := b.engines.recalls.get p

/-- The block with a recall stack replaced. -/
def Block.setRecalls (b : Block) (p : PresId) (x : List RecallRecord) : Block :=
  { b with engines := { b.engines with recalls := vset b.engines.recalls p x } }

/-- The profile bound to presentation output `p` (R66). -/
def Block.boundProfile (b : Block) (p : PresId) : ProfileId := b.engines.bound.get p

/-- Key slot `k`. -/
def Block.slot (b : Block) (k : SlotId) : KeySlot := b.keys.slots.get k

/-- Profile `p`. -/
def Block.profile (b : Block) (p : ProfileId) : Profile := b.profiles.get p

/-- The block with profile `p` replaced. -/
def Block.setProfile (b : Block) (p : ProfileId) (x : Profile) : Block :=
  { b with profiles := vset b.profiles p x }

/-- The Ring Writer's record of record output `r`. -/
def Block.ring (b : Block) (r : RecId) : Ring := b.ringWriter.rings.get r

/-- The block with the Ring Writer's record of `r` replaced. -/
def Block.setRing (b : Block) (r : RecId) (x : Ring) : Block :=
  { b with ringWriter := { b.ringWriter with rings := vset b.ringWriter.rings r x } }

/-- The service part of a context, none when it is empty. -/
def Block.part? (b : Block) : CtxId → Option ServicePart
  | .out o => (b.out o).part
  | .warm p => (b.warm p).part

/-- The block with the service part of a context replaced. -/
def Block.setPart (b : Block) (c : CtxId) (x : Option ServicePart) : Block :=
  match c with
  | .out o => b.setOut o { b.out o with part := x }
  | .warm p => b.setWarm p { b.warm p with part := x }

/-- The present-tuners mask, read off the records: flag `t` is set when tuner `t` is not ABSENT (R2). -/
def TunerPool.presentMask (p : TunerPool) : List Bool :=
  tunerIds.map fun t => decide ((p.tuners.get t).state ≠ .absent)

/-- Whether the device is RUNNING (R200). -/
def Block.running (b : Block) : Bool := decide (b.link.device = .running)

/-- Whether the attention line is asserted: the notice queue holds at least one notice (R198). -/
def Link.attention (l : Link) : Bool := !l.notices.isEmpty

/-! ## Replies (R196) -/

/-- A reply to the request or bad frame of the present select period is placed in the reply slot (R196).  The frame being clocked out, if any, is
then no longer the slot's, and the period carries nothing more (R195). -/
def Block.reply (b : Block) (tag : Byte) (body : ReplyBody) : Block :=
  { b with link := { b.link with slot := some { tag := tag, body := body }, clockingSlot := false, periodSpent := true } }

/-- What the link carries is taken unless the select period has carried its one request or bad frame already: it is then ignored (R195). -/
def Block.hear (b : Block) (take : Block → Block) : Block := if b.link.periodSpent then b else take b

/-- An event that is no request: it changes the block and places no reply of its own accord. -/
def happen (act : Block → Block) (s : State) : Host.Outcome State Fault Refusal :=
  .next { s with toBlock := act s.toBlock }

/-- A request that the link carries is answered by exactly one reply (R195, R196).  A body of the wrong length is answered BAD ARGUMENT before
any check of the owner's (R197). -/
def answer (h : Head) (run : Block → Block × ReplyBody) (s : State) : Host.Outcome State Fault Refusal :=
  happen (fun b => b.hear fun b =>
    if h.bodyFits then (run b).1.reply h.tag (run b).2 else b.reply h.tag (.refused .badArgument)) s

/-- A query: its reply is read from the block and nothing else changes. -/
def answerQuery (h : Head) (read : Block → ReplyBody) (s : State) : Host.Outcome State Fault Refusal :=
  answer h (fun b => (b, read b)) s

/-! ## Notices (R198) -/

/-- The notice queue after a posting: a pending notice of the same kind and subject takes the new body in its place, otherwise the notice
goes to the end (R198). -/
def postTo (q : List Notice) (n : Notice) : List Notice :=
  if q.any (fun m => decide (m.key = n.key)) then q.map (fun m => if m.key = n.key then n else m) else q ++ [n]

/-- A block posts a notice (R198). -/
def Block.post (b : Block) (key : NoticeKey) (body : NoticeBody) : Block :=
  { b with link := { b.link with notices := postTo b.link.notices { key := key, body := body } } }

/-- The refusal mark that an OUTPUT notice gives: the mark of the output's slot, for HELD NO KEY (R169).  DESIGN CHOICE: HELD NO KEY names both
a result and a delivery state; the notice gives the mark where the delivery state is HELD NO KEY, and so not on a CONTAINED output whose
verdict is NO KEY (log entry 36). -/
def Block.noticeMark (b : Block) (o : OutId) : Option RefusalMark :=
  if (b.out o).delivery = .held .noKey then
    ((b.out o).part.bind (·.slot)).bind fun r => (b.slot r.slot).mark
  else none

/-- The OUTPUT notice of an output as it stands (R169). -/
def Block.postOutput (b : Block) (o : OutId) : Block :=
  let x := b.out o
  b.post (.output o) (.output o x.delivery x.verdict (x.part.map (·.service)) (x.current.map (·.eventId)) (b.noticeMark o)
    (decide (x.delivery = .contained)) x.fault.reason)

/-- The WARM notice of a warm context as it stands (R64). -/
def Block.postWarm (b : Block) (p : PresId) : Block :=
  let w := b.warm p
  b.post (.warm p) (.warm p w.state (w.part.map (·.service)) (w.part.bind (·.tuner)) ((w.part.bind (·.slot)).map (·.slot)))

/-- A writer as the host reads it (R181, R182). -/
def Writer.view : Writer → WriterView
  | .idle => .idle
  | .writing h => .writing h
  | .waiting _ _ => .waiting

/-- A record output's record in the Ring Writer as RING STATUS gives it (R182). -/
def Ring.view (x : Ring) : RingView :=
  { field := x.field, halves := x.halves, writer := x.writer.view, lastFilled := x.lastFilled, drain := x.drain }

/-- The RING notice of a record output as it stands (R181). -/
def Block.postRing (b : Block) (r : RecId) : Block :=
  let x := b.ring r
  b.post (.ring r) (.ring r x.writer.view (x.halves.toList.map fun h => (h.state, h.count)) (x.drain.map (·.half)))

/-- The FAULT notice of an output as it stands; `latest` is the class of the latest raise, none for a clear (R193). -/
def Block.postFault (b : Block) (o : OutId) (latest : Option FaultClass) : Block :=
  let f := (b.out o).fault
  b.post (.fault o) (.fault o f.status f.pointer latest f.reason)

/-- The GUIDE notice as the Guide Store stands (R33). -/
def Block.postGuide (b : Block) : Block :=
  b.post .guide (.guide b.guide.acquirer b.guide.mapVersion b.guide.muxes.length b.guide.services.length b.guide.pool.length)

/-- The ACCOUNT notice as the account stands (R116). -/
def Block.postAccount (b : Block) (cause : AccountCause) : Block :=
  let a := b.account
  b.post .account (.account a.purse a.sequence a.entitlements.length a.serviceKeys.length a.group a.integrityFailures cause)

/-- The part of a purchase record that notices and replies show (R126, R139). -/
def Purchase.view (p : Purchase) : PurchaseView :=
  { service := p.service, eventId := p.eventId, state := p.state, charged := p.charged, taken := p.taken, clock := p.clock,
    exhausted := p.exhausted }

/-- The PURCHASE notice with its cause, and the record concerned where the cause names one (R139). -/
def Block.postPurchase (b : Block) (cause : PurchaseCause) (record : Option Purchase) : Block :=
  b.post .purchase (.purchase b.purchases.length cause (record.map Purchase.view) b.account.purse)

end Sys2Proof.Machine
end

