-- ==== Sys2Proof/Machine/Memory.lean ====
section
/-! DEFINITION. The 512 MiB buffer memory of the Ring Writer: its canonical form, reading and writing bytes, and the bytes of the
things that cross the record stream port. -/

namespace Sys2Proof.Machine

/-- The canonical form: addresses strictly rising.  An address that is not listed has not been written and holds no known byte, so no
entry can equal what an unlisted address reads as (log entry 5). -/
abbrev Memory.wf (m : Memory) : Prop := m.cells.Pairwise (fun x y => x.1 < y.1)

/-- Reading among the listed cells. -/
def readCell : List Host.Cell → Nat → Option Byte
  | [], _ => none
  | (x, v) :: rest, a => if a = x then some v else readCell rest a

/-- Writing among the listed cells, in address order. -/
def writeCell (cells : List Host.Cell) (address : Nat) (byte : Byte) : List Host.Cell :=
  match cells with
  | [] => [(address, byte)]
  | cell :: above =>
    if cell.1 < address then cell :: writeCell above address byte
    else if cell.1 = address then (address, byte) :: above
    else (address, byte) :: cell :: above

/-- The byte at an address, none where nothing has been written. -/
def Memory.read (m : Memory) (a : Nat) : Option Byte := readCell m.cells a

/-- The memory with one byte written. -/
def Memory.write (m : Memory) (a : Nat) (b : Byte) : Memory := { cells := writeCell m.cells a b }

/-- The memory with bytes written one after the other from an address on. -/
def Memory.writeBytes (m : Memory) (a : Nat) : List Byte → Memory
  | [] => m
  | b :: bs => (m.write a b).writeBytes (a + 1) bs

/-- The bytes at `n` addresses from `a` on, or the first address that has not been written. -/
def Memory.readBytes (m : Memory) (a : Nat) : Nat → Except Nat (List Byte)
  | 0 => .ok []
  | n + 1 =>
    match m.read a with
    | none => .error a
    | some b =>
      match m.readBytes (a + 1) n with
      | .error x => .error x
      | .ok bs => .ok (b :: bs)

/-- The `n` low bytes of a number, the lowest first: the little-endian form of every multi-byte field (scope file, "Numbers and units"). -/
def leBytes : Nat → Nat → List Byte
  | 0, _ => []
  | n + 1, x => BitVec.ofNat 8 x :: leBytes n (x / 256)

/-- The 188 bytes of a cell image, byte 0 first. -/
def imageBytes (x : CellImage) : List Byte := leBytes 188 x.toNat

/-- A stored unit of 192 bytes: the stamp and the cell (R174, R178). -/
def unitBytes (stamp : Nat) (c : Cell) : List Byte := leBytes 4 stamp ++ imageBytes c.image

/-- The length of a stored unit in bytes (R170). -/
def unitLength : Nat := 192

/-- The address of a unit of a half: the field starts at base × 65,536, half 0 comes first, and units lie in write order (R170). -/
def unitAddress (f : FieldSpec) (h : HalfId) (n : Nat) : Nat :=
  f.base * 65536 + (h.val * f.capacity + n) * unitLength

/-- The code of a copy control in a half header (R178). -/
def copyCode : CopyControl → Nat
  | .free => 0
  | .once => 1
  | .noMore => 2
  | .never => 3

/-- The bytes of an item on the record stream port (R178). -/
def RecordItem.bytes : RecordItem → List Byte
  | .header o h c count first last =>
    [0xA5, BitVec.ofNat 8 o.val, BitVec.ofNat 8 h.val, BitVec.ofNat 8 (copyCode c)] ++ leBytes 4 count ++ leBytes 4 first ++ leBytes 4 last
  | .unit bs => bs
  | .endMark o h sent => [0xE5, BitVec.ofNat 8 o.val, BitVec.ofNat 8 h.val, 0] ++ leBytes 4 sent
  | .abortMark o h sent => [0xEA, BitVec.ofNat 8 o.val, BitVec.ofNat 8 h.val, 0] ++ leBytes 4 sent

/-- Whether the start signal of the record stream port marks the item's first byte: it marks headers and marks, not units (R178). -/
def RecordItem.startSignal : RecordItem → Bool
  | .unit _ => false
  | _ => true

end Sys2Proof.Machine
end

