-- ==== Sys2Proof/Config.lean ====
section
/-! DEFINITION. The free values of the model: functions without a body, standing for what the manual names and does not give.
No proof can see what they are, so a claim holds whatever they are. -/

namespace Sys2Proof.Config

open Sys2Proof.Machine

/-- The fixed transformation by which the Key Unit deciphers a cell with a control key (R95, and the scope file: "it does not give the
transformation itself").  It gives the whole cell image that leaves the Key Unit. -/
opaque decipher : ControlKey → CellImage → CellImage

/-- The fixed transformation by which the unwrap engine recovers a control key from a wrapped one with a service key (R94). -/
opaque unwrap : ServiceKey → WrappedKey → ControlKey

/-- How many further whole entries of a class list fit in one ENTITLEMENTS reply after the first (R118: the byte layout of an entry is not
given).  The argument is the list of entries still to be sent, each whole with its grant flag, so that no field is left out of what the
number may hang on (log entry 8). -/
opaque entitlementRoom : List (Entitlement × Bool) → Nat

/-- How many further whole records fit in one SERVICES reply after the first (R41).  The argument is the list of records still to be sent,
each whole (log entry 8). -/
opaque serviceRoom : List Service → Nat

/-- How many further whole records fit in one PURCHASES reply after the first (R140).  The argument is the list of records still to
be sent, each whole as it is sent, with d(v) where it carries one (log entry 8). -/
opaque purchaseRoom : List (Purchase × Option Nat) → Nat

end Sys2Proof.Config
end

