-- ==== Sys2Proof/Machine/Clock.lean ====
section
/-! DEFINITION. Spans, and local time as the Guide Store derives it from the time base. -/

namespace Sys2Proof.Machine

/-- The seconds of one unit of a scale code (scope file, "Spans"). -/
def scaleSeconds (scale : Fin 4) : Nat :=
  match scale with
  | 0 => 1
  | 1 => 10
  | 2 => 60
  | 3 => 600

/-- The length of a span in seconds: its value times its scale (scope file, "Spans"). -/
def spanLength (s : Span) : Nat := s.value.val * scaleSeconds s.scale

/-- Local seconds: UTC plus 60 times the offset in force, none with time unset (R36). -/
def TimeBase.local? (t : TimeBase) : Option Int :=
  t.utc.map fun u => (u : Int) + 60 * t.offset

/-- The day index: local seconds divided by 86,400, rounded down (R36). -/
def TimeBase.day? (t : TimeBase) : Option Int :=
  t.local?.map fun l => l / 86400

/-- The minute of day: the remainder of local seconds after whole days, divided by 60 and rounded down (R36). -/
def TimeBase.minute? (t : TimeBase) : Option Nat :=
  t.local?.map fun l => ((l % 86400) / 60).toNat

/-- Whether a time is at or before UTC; never with time unset. -/
def TimeBase.reached (t : TimeBase) (due : Nat) : Bool :=
  match t.utc with
  | some u => decide (due ≤ u)
  | none => false

/-- The TIME notice as the time base stands (R37). -/
def Block.postTime (b : Block) : Block :=
  let t := b.guide.time
  b.post .time (.time t.utc t.offset t.change t.day? t.minute?)

end Sys2Proof.Machine
end

