-- ==== Sys2Proof/Machine/GuideTables.lean ====
section
/-! DEFINITION. The Guide Store's tables: look-ups, the events of a service, the service map (R25 to R27), event blocks (R30 to R32),
time sections (R34, R35), and the walk of SEEK (R43 to R46). -/

namespace Sys2Proof.Machine

/-! ## Look-ups -/

/-- The service record of a service number (R26). -/
def Guide.service? (g : Guide) (n : Nat) : Option Service :=
  g.services.find? fun s => decide (s.number = n)

/-- The multiplex that an index names in the multiplex table (R3). -/
def Guide.mux? (g : Guide) (index : Nat) : Option Mux :=
  (g.muxes.find? fun m => decide (m.index = index)).map (·.mux)

/-- The events of a service, in start order (R32). -/
def Guide.events (g : Guide) (service : Nat) : List Event :=
  (g.pool.filter fun x => decide (x.service = service)).map (·.event)

/-- The stored event of a service with an id (R31). -/
def Guide.event? (g : Guide) (service eventId : Nat) : Option Event :=
  (g.events service).find? fun e => decide (e.eventId = eventId)

/-- The end of an event: start plus duration (R29). -/
def Event.finish (e : Event) : Nat := e.start + e.duration

/-- Whether an event is ended: time set, and its end at or before UTC (R29). -/
def Event.ended (e : Event) (t : TimeBase) : Bool := t.reached e.finish

/-- Whether an event is on air: time set, its start at or before UTC and its end after UTC (R29). -/
def Event.onAir (e : Event) (t : TimeBase) : Bool := t.reached e.start && !t.reached e.finish

/-- The event of a service that is on air (R38). -/
def Guide.onAir? (g : Guide) (service : Nat) : Option Event :=
  (g.events service).find? fun e => e.onAir g.time

/-! ## The service map (R25 to R27) -/

/-- Whether a multiplex entry fits (R26). -/
def muxEntryFits (m : MuxEntry) : Bool :=
  decide (50000 ≤ m.freq) && decide (m.freq ≤ 1002000) && m.modulation.isSome && decide (m.index ≤ 63)

/-- The multiplex entries that are kept, in list order: an entry is dropped when it does not fit or its index repeats one already read
(R26).  `seen` holds the indexes already read. -/
def keepMuxes : List MuxEntry → List Nat → List Multiplex
  | [], _ => []
  | m :: rest, seen =>
    if muxEntryFits m && !decide (m.index ∈ seen) then
      match m.modulation with
      | some q => { index := m.index, mux := { freq := m.freq, modulation := q } } :: keepMuxes rest (m.index :: seen)
      | none => keepMuxes rest (m.index :: seen)
    else keepMuxes rest (m.index :: seen)

/-- Whether a service entry fits against the multiplex entries kept from the same map (R26). -/
def serviceEntryFits (kept : List Multiplex) (s : ServiceEntry) : Bool :=
  decide (1 ≤ s.number) && decide (s.number ≤ 9999) && kept.any (fun m => decide (m.index = s.muxIndex))
    && decide (s.video ≠ 8191) && s.audios.all (fun a => decide (a.label ≠ 8191)) && decide (s.captions ≠ some 8191)
    && decide (s.keyLabel ≠ some 8191) && decide (1 ≤ s.audios.length) && decide (s.audios.length ≤ 4)

/-- The service record made from a service entry at the application of a map version (R26, R27). -/
def serviceOf (version : Nat) (s : ServiceEntry) : Service :=
  { number := s.number, muxIndex := s.muxIndex, video := s.video, audios := s.audios, captions := s.captions, keyLabel := s.keyLabel,
    defaultClass := s.defaultClass, version := version }

/-- The service records that are kept, in list order (R26).  `seen` holds the numbers already read. -/
def keepServices (kept : List Multiplex) (version : Nat) : List ServiceEntry → List Nat → List Service
  | [], _ => []
  | s :: rest, seen =>
    if serviceEntryFits kept s && !decide (s.number ∈ seen) then
      serviceOf version s :: keepServices kept version rest (s.number :: seen)
    else keepServices kept version rest (s.number :: seen)

/-- Insertion of a multiplex in ascending index. -/
def insertMux (m : Multiplex) : List Multiplex → List Multiplex
  | [] => [m]
  | x :: rest => if m.index < x.index then m :: x :: rest else x :: insertMux m rest

/-- Insertion of a service in ascending number. -/
def insertService (s : Service) : List Service → List Service
  | [] => [s]
  | x :: rest => if s.number < x.number then s :: x :: rest else x :: insertService s rest

/-- The multiplex table of a complete map, in ascending index (R26, R27). -/
def mapMuxes (m : PendingMap) : List Multiplex :=
  (keepMuxes (m.parts.flatMap (·.muxes)) []).foldl (fun l x => insertMux x l) []

/-- The service table of a complete map, in ascending number; entries beyond the 256th kept are dropped (R26, R27). -/
def mapServices (m : PendingMap) : List Service :=
  ((keepServices (mapMuxes m) m.version (m.parts.flatMap (·.services)) []).take 256).foldl (fun l x => insertService x l) []

/-- Steps 1 and 2 of R27, with the pending map gone (R25): the tables are replaced whole, and the events of services that have left are
removed. -/
def Guide.applyMap (g : Guide) (m : PendingMap) : Guide :=
  let services := mapServices m
  { g with muxes := mapMuxes m, services := services, mapVersion := some m.version, pendingMap := none,
           pool := g.pool.filter fun x => services.any fun s => decide (s.number = x.service) }

/-- Insertion of a section into a pending map in ascending number. -/
def insertPart (p : MapSection) : List MapSection → List MapSection
  | [] => [p]
  | x :: rest => if p.number < x.number then p :: x :: rest else x :: insertPart p rest

/-- The pending map after a SERVICE MAP section whose version is not the applied one (R25 steps 2 to 4). -/
def gather (pending : Option PendingMap) (version last : Nat) (p : MapSection) : PendingMap :=
  match pending with
  | none => { version := version, last := last, parts := [p] }
  | some m =>
    if m.version ≠ version ∨ m.last ≠ last then { version := version, last := last, parts := [p] }
    else if m.parts.any fun x => decide (x.number = p.number) then m
    else { m with parts := insertPart p m.parts }

/-- Whether a pending map holds every section number from 0 to its last (R25). -/
def PendingMap.complete (m : PendingMap) : Bool :=
  (List.range (m.last + 1)).all fun n => m.parts.any fun x => decide (x.number = n)

/-! ## Event blocks (R30 to R32) -/

/-- The event record made from an entry, none when the entry is dropped (R30). -/
def fitEntry (version : Nat) (e : EventEntry) : Option Event :=
  if e.eventId = 0 ∨ e.duration = 0 ∨ 86400 < e.duration ∨ 4294967295 < e.start + e.duration then none
  else some
    { eventId := e.eventId, start := e.start, duration := e.duration, rating := e.rating, categories := e.categories,
      accessClass := e.accessClass,
      priceMode := if e.priceMode = .metered ∧ spanLength e.interval = 0 then .unpriced else e.priceMode,
      flatPrice := e.flatPrice, rate := e.rate, interval := e.interval, preview := e.preview, cap := e.cap, copy := e.copy,
      version := version, title := e.title.take 48, series := if e.series = 0 then none else some e.series }

/-- Two events overlap when each one starts before the other ends (R31). -/
def Event.overlaps (a b : Event) : Bool := decide (a.start < b.finish) && decide (b.start < a.finish)

/-- The place of an event in the pool: ascending service, then start. -/
def insertEvent (x : PoolEvent) : List PoolEvent → List PoolEvent
  | [] => [x]
  | y :: rest =>
    if x.service < y.service ∨ (x.service = y.service ∧ x.event.start < y.event.start) then x :: y :: rest
    else y :: insertEvent x rest

/-- Among pool events, the one that no other is better than, the first of equals. -/
def best (better : PoolEvent → PoolEvent → Bool) (l : List PoolEvent) : Option PoolEvent :=
  l.foldl (fun m x => match m with | none => some x | some y => if better x y then some x else some y) none

/-- Which event leaves a full pool for an entry: the ended event with the earliest end, else the latest-starting event that starts later
than the entry; never an output's current event, and the lower service number
between equals (R32). -/
def evictFor (t : TimeBase) (isCurrent : PoolEvent → Bool) (pool : List PoolEvent) (e : Event) : Option PoolEvent :=
  match best (fun x y => decide (x.event.finish < y.event.finish)
        || (decide (x.event.finish = y.event.finish) && decide (x.service < y.service)))
      (pool.filter fun x => x.event.ended t && !isCurrent x) with
  | some x => some x
  | none => best (fun x y => decide (y.event.start < x.event.start)
        || (decide (x.event.start = y.event.start) && decide (x.service < y.service)))
      (pool.filter fun x => decide (e.start < x.event.start) && !isCurrent x)

/-- The capacity of the event pool (R32). -/
def poolCapacity : Nat := 2048

/-- What handling entries has done so far: the pool, and the services whose events changed (R33). -/
structure PoolWork where
  pool : List PoolEvent
  changed : List Nat
  deriving DecidableEq, Repr

/-- Insertion of an event that nothing stored overlaps or shares its id with, making room in a full pool (R32). -/
def placeEvent (t : TimeBase) (isCurrent : PoolEvent → Bool) (service : Nat) (e : Event) (w : PoolWork) : PoolWork :=
  if w.pool.length < poolCapacity then
    { pool := insertEvent { service := service, event := e } w.pool, changed := service :: w.changed }
  else
    match evictFor t isCurrent w.pool e with
    | none => w
    | some x =>
      { pool := insertEvent { service := service, event := e }
          (w.pool.filter fun y => !(decide (y.service = x.service) && decide (y.event.eventId = x.event.eventId))),
        changed := service :: x.service :: w.changed }

/-- One entry of an EVENT BLOCK (R30, R31): fitted, compared with the stored events of its service, and inserted. -/
def takeEntry (t : TimeBase) (isCurrent : PoolEvent → Bool) (service version : Nat) (w : PoolWork) (x : EventEntry) : PoolWork :=
  match fitEntry version x with
  | none => w
  | some e =>
    if w.pool.any fun y => decide (y.service = service) && decide (y.event.eventId = e.eventId) && decide (y.event.version = e.version)
    then w
    else
      let goes := fun y : PoolEvent =>
        decide (y.service = service) && (decide (y.event.eventId = e.eventId) || y.event.overlaps e)
      let kept := w.pool.filter fun y => !goes y
      placeEvent t isCurrent service e
        { pool := kept, changed := if w.pool.any goes then service :: w.changed else w.changed }

/-! ## Time (R34, R35) -/

/-- The announced offset change comes into force once UTC has reached its time (R34 step 4, R35 step 2). -/
def TimeBase.settle (t : TimeBase) : TimeBase :=
  match t.change with
  | some c => if t.reached c.due then { t with offset := c.offset, change := none } else t
  | none => t

/-- Whether an offset lies in −720 to +840 (R34). -/
def offsetInRange (x : Int) : Bool := decide (-720 ≤ x) && decide (x ≤ 840)

/-- The time base after a TIME section that passes its range test (R34). -/
def takeTime (utc : Nat) (offset : Int) (change : Option OffsetChange) : TimeBase :=
  ({ utc := some utc, offset := offset, change := change } : TimeBase).settle

/-- The time base after the Guide Store's seconds-clock expiry (R35). -/
def TimeBase.tick (t : TimeBase) : TimeBase :=
  match t.utc with
  | none => t
  | some u => ({ t with utc := some (if u < 4294967295 then u + 1 else u) } : TimeBase).settle

/-! ## SEEK (R43 to R46) -/

/-- Whether a condition belongs to a field (R43). -/
def conditionBelongs (f : SeekField) (c : SeekCondition) : Bool :=
  match f, c with
  | .categories, .anyOf | .categories, .allOf | .categories, .noneOf => true
  | .categories, _ => false
  | .series, .eq => true
  | .series, _ => false
  | _, .anyOf | _, .allOf | _, .noneOf => false
  | _, _ => true

/-- The argument checks of SEEK (R43 step 2). -/
def seekArgumentsGood (q : SeekQuery) : Bool :=
  decide (1 ≤ q.service) && decide (q.service ≤ 9999) && decide (1 ≤ q.limit) && decide (q.limit ≤ 256)
    && conditionBelongs q.field q.condition
    && (match q.field with
        | .categories => decide (q.value ≤ 255)
        | .series => decide (1 ≤ q.value) && decide (q.value ≤ 65535)
        | _ => true)

/-- The ordinal of a price mode (R29, R45). -/
def priceOrdinal : PriceMode → Nat
  | .free => 0
  | .flat => 1
  | .metered => 2
  | .unpriced => 3

/-- The number that a SEEK compares, for the six fields that are numbers (R45). -/
def seekNumber (f : SeekField) (e : Event) : Nat :=
  match f with
  | .start => e.start
  | .duration => e.duration
  | .rating => e.rating
  | .cls => e.accessClass
  | .flatPrice => e.flatPrice
  | .priceMode => priceOrdinal e.priceMode
  | .categories => e.categories.toNat
  | .series => e.series.getD 0

/-- A comparison of two numbers as unsigned numbers (R45). -/
def compareNumbers (c : SeekCondition) (x value : Nat) : Bool :=
  match c with
  | .eq => decide (x = value)
  | .ne => decide (x ≠ value)
  | .lt => decide (x < value)
  | .le => decide (x ≤ value)
  | .gt => decide (value < x)
  | .ge => decide (value ≤ x)
  | _ => false

/-- A comparison of two sets of categories (R45). -/
def compareSets (c : SeekCondition) (x value : BitVec 8) : Bool :=
  match c with
  | .anyOf => decide (x &&& value ≠ 0)
  | .allOf => decide (x &&& value = value)
  | .noneOf => decide (x &&& value = 0)
  | _ => false

/-- Whether an event matches a SEEK (R45). -/
def seekMatches (q : SeekQuery) (e : Event) : Bool :=
  match q.field with
  | .categories => compareSets q.condition e.categories (BitVec.ofNat 8 q.value)
  | .series => decide (e.series = some q.value)
  | f => compareNumbers q.condition (seekNumber f e) q.value

/-- The events from the one that satisfies a test on. -/
def fromFirst (test : Event → Bool) : List Event → List Event
  | [] => []
  | e :: rest => if test e then e :: rest else fromFirst test rest

/-- The events of a walk, in its direction, from the first one examined on (R44). -/
def walkList (q : SeekQuery) (events : List Event) : List Event :=
  let ordered := match q.direction with | .forward => events | .backward => events.reverse
  if q.fromId ≠ 0 ∧ (events.any fun e => decide (e.eventId = q.fromId)) = true then
    let there := fromFirst (fun e => decide (e.eventId = q.fromId)) ordered
    if q.includeFrom then there else there.tail
  else
    fromFirst (fun e => match q.direction with
      | .forward => decide (q.fromStart ≤ e.start)
      | .backward => decide (e.start ≤ q.fromStart)) ordered

/-- The walk of SEEK over the events to examine, with the remaining limit and the number examined so far (R45, R46). -/
def seekWalk (test : Event → Bool) : List Event → Nat → Nat → SeekOutcome
  | [], _, examined => .finished examined
  | e :: rest, limit, examined =>
    if test e then .found e.eventId e.start (examined + 1) (limit - 1)
    else if limit - 1 = 0 then
      match rest with
      | [] => .finished (examined + 1)
      | f :: _ => .limit f.eventId f.start (examined + 1)
    else seekWalk test rest (limit - 1) (examined + 1)

end Sys2Proof.Machine
end

