-- ==== Sys2Proof/Machine/Parental.lean ====
section
/-! DEFINITION. The Parental Unit: codes and lockouts, the content, window and allowance tests, and the parental answer (R141 to R155). -/

namespace Sys2Proof.Machine

/-- The lockout after three consecutive wrong codes, in seconds (R143). -/
def lockoutSeconds : Nat := 600

/-- Whether a code is four digits, each 0 to 9 (R142). -/
def codeGood (c : Code) : Bool := decide (c.d0 ≤ 9) && decide (c.d1 ≤ 9) && decide (c.d2 ≤ 9) && decide (c.d3 ≤ 9)

/-- Whether a presented code is correct for a profile: its code is set and equal (R142). -/
def Profile.correct (p : Profile) (c : Code) : Bool := decide (p.code = some c)

/-- Whether a profile is locked out (R143). -/
def Profile.lockedOut (p : Profile) : Bool := decide (0 < p.lockout)

/-- A wrong code counted against a profile; the third starts a lockout (R143). -/
def Profile.countWrong (p : Profile) : Profile :=
  { p with wrongCodes := p.wrongCodes + 1, lockout := if p.wrongCodes + 1 = 3 then lockoutSeconds else p.lockout }

/-- A successful comparison with a profile's code (R143). -/
def Profile.countRight (p : Profile) : Profile := { p with wrongCodes := 0 }

/-- One second of lockout countdown; at 0 the wrong-code count is cleared (R144). -/
def Profile.countdown (p : Profile) : Profile :=
  if p.lockout = 0 then p
  else { p with lockout := p.lockout - 1, wrongCodes := if p.lockout = 1 then 0 else p.wrongCodes }

/-- Whether a profile is spent (R150). -/
def Profile.isSpent (p : Profile) : Bool :=
  decide (p.settings.allowance < 1440) && decide (60 * p.settings.allowance ≤ p.spent)

/-- The day reset of a profile at a day index (R153). -/
def Profile.dayReset (p : Profile) (day : Int) : Profile := if p.day < day then { p with spent := 0, day := day } else p

/-- One spent second, up to 86,400 (R152). -/
def Profile.accrue (p : Profile) : Profile := { p with spent := min (p.spent + 1) 86400 }

/-- Whether viewing is inside a profile's window at a minute of day, none with time unset (R149). -/
def Profile.insideWindow (p : Profile) (minute : Option Nat) : Bool :=
  let opens := p.settings.windowStart
  let closes := p.settings.windowEnd
  decide (opens = closes) || minute.any fun now =>
    let opened := decide (opens ≤ now)
    let stillOpen := decide (now < closes)
    if opens < closes then opened && stillOpen else opened || stillOpen

/-- The content tests against a rating and categories (R148). -/
def Profile.contentTest (p : Profile) (rating : Nat) (categories : BitVec 8) : Option Held :=
  if rating = 0 ∧ p.settings.blockUnrated = true then some .unrated
  else if p.settings.ceiling < rating then some .rating
  else if categories &&& p.settings.blocked ≠ 0 then some .category
  else none

/-- The parental answer: the first test that fails and is not lifted by the override, none for PASS (R151). -/
def Profile.parentalAnswer (p : Profile) (scope : Option Scope) (minute : Option Nat) (rating : Nat) (categories : BitVec 8) :
    Option Held :=
  match scope with
  | some .all => none
  | some .content =>
    if !p.insideWindow minute then some .outsideWindow else if p.isSpent then some .allowanceSpent else none
  | none =>
    if !p.insideWindow minute then some .outsideWindow
    else if p.isSpent then some .allowanceSpent
    else p.contentTest rating categories

/-- The settings of SET PROFILE lie in their ranges (R145). -/
def settingsGood (x : ProfileSettings) : Bool :=
  decide (x.ceiling ≤ 15) && decide (x.allowance ≤ 1440) && decide (x.windowStart ≤ 1439) && decide (x.windowEnd ≤ 1439)

/-- The wider of two scopes (R155). -/
def widerScope (a : Scope) (b : Option Override) : Scope :=
  match b with
  | none => a
  | some x => if a = .all ∨ x.scope = .all then .all else .content

/-- What a code presented to UNLOCK matches: the master code, the bound profile's code, or nothing (R155). -/
inductive CodeMatch where
  | master | own | wrong
  deriving DecidableEq, Repr

/-- The comparison of UNLOCK (R155). -/
def matchCode (master own : Profile) (ownIsZero : Bool) (c : Code) : CodeMatch :=
  if !master.lockedOut && master.correct c then .master
  else if !ownIsZero && !own.lockedOut && own.correct c then .own
  else .wrong

end Sys2Proof.Machine
end

