-- ==== Sys2Proof/Machine/Account.lean ====
section
/-! DEFINITION. The account: what is granted and valid, the six kinds of entitlement message, lapse, and the debit (R99 to R115). -/

namespace Sys2Proof.Machine

/-- The top of the purse (R99). -/
def purseTop : Nat := 16777215

/-- Whether an entitlement entry is granted at the time base: time unset, or both dates after UTC (R114). -/
def Entitlement.granted (e : Entitlement) (t : TimeBase) : Bool := !t.reached e.expiry && !t.reached e.renewBy

/-- Whether an access class is granted: 0, or an entry for it that is granted (R114). -/
def Account.granted (a : Account) (t : TimeBase) (cls : Nat) : Bool :=
  decide (cls = 0) || a.entitlements.any fun e => decide (e.cls = cls) && e.granted t

/-- Whether a service key record is currently valid: time unset, or valid-from at or before UTC and valid-until after UTC (R114). -/
def ServiceKeyRecord.valid (r : ServiceKeyRecord) (t : TimeBase) : Bool :=
  t.utc.isNone || (t.reached r.validFrom && !t.reached r.validUntil)

/-- The service key with an id, if the table holds it and it is currently valid (R92, R114). -/
def Account.key? (a : Account) (t : TimeBase) (keyId : Nat) : Option ServiceKey :=
  ((a.serviceKeys.find? fun r => decide (r.keyId = keyId)).filter fun r => r.valid t).map (·.key)

/-! ## The kinds of message (R106 to R112) -/

/-- Insertion of an entitlement in ascending class. -/
def insertEntitlement (e : Entitlement) : List Entitlement → List Entitlement
  | [] => [e]
  | x :: rest => if e.cls < x.cls then e :: x :: rest else x :: insertEntitlement e rest

/-- The entry with the earliest expiry, the lowest class between equals (R107). -/
def earliestExpiry (l : List Entitlement) : Option Entitlement :=
  l.foldl (fun m x => match m with
    | none => some x
    | some y => if x.expiry < y.expiry ∨ (x.expiry = y.expiry ∧ x.cls < y.cls) then some x else some y) none

/-- A GRANT on the entitlement table (R106, R107). -/
def grantIn (l : List Entitlement) (e : Entitlement) : List Entitlement :=
  if l.any fun x => decide (x.cls = e.cls) then l.map fun x => if x.cls = e.cls then e else x
  else if l.length < 64 then insertEntitlement e l
  else
    match earliestExpiry l with
    | none => l
    | some x => if x.expiry < e.expiry then insertEntitlement e (l.filter fun y => decide (y.cls ≠ x.cls)) else l

/-- Insertion of a service key record in ascending id. -/
def insertKey (r : ServiceKeyRecord) : List ServiceKeyRecord → List ServiceKeyRecord
  | [] => [r]
  | x :: rest => if r.keyId < x.keyId then r :: x :: rest else x :: insertKey r rest

/-- The record with the earliest valid-until, the lowest id between equals (R109). -/
def earliestKey (l : List ServiceKeyRecord) : Option ServiceKeyRecord :=
  l.foldl (fun m x => match m with
    | none => some x
    | some y => if x.validUntil < y.validUntil ∨ (x.validUntil = y.validUntil ∧ x.keyId < y.keyId) then some x else some y) none

/-- A SERVICE KEY on the service key table (R109). -/
def serviceKeyIn (l : List ServiceKeyRecord) (r : ServiceKeyRecord) : List ServiceKeyRecord :=
  if l.any fun x => decide (x.keyId = r.keyId) then l.map fun x => if x.keyId = r.keyId then r else x
  else if l.length < 8 then insertKey r l
  else
    match earliestKey l with
    | none => l
    | some x => insertKey r (l.filter fun y => decide (y.keyId ≠ x.keyId))

/-- Whether a credit sequence is newer than the last one (R110). -/
def newerSequence (last : Option Nat) (sequence : Nat) : Bool :=
  match last with
  | none => true
  | some x => decide (1 ≤ (sequence + 65536 - x) % 65536) && decide ((sequence + 65536 - x) % 65536 ≤ 32767)

/-- The account after an accepted message of a kind (R106 to R112).  A CREDIT that is not newer changes nothing (R110). -/
def Account.apply (a : Account) : EntitlementKind → Account
  | .grant cls expiry renewBy => { a with entitlements := grantIn a.entitlements { cls := cls, expiry := expiry, renewBy := renewBy } }
  | .revoke cls => { a with entitlements := a.entitlements.filter fun x => decide (x.cls ≠ cls) }
  | .serviceKey keyId key validFrom validUntil =>
    { a with serviceKeys := serviceKeyIn a.serviceKeys ⟨keyId, key, validFrom, validUntil⟩ }
  | .credit sequence amount =>
    if newerSequence a.sequence sequence then { a with sequence := some sequence, purse := min (a.purse + amount) purseTop } else a
  | .groupAssign group position => { a with group := if group = 0 then none else some { group := group, position := position } }
  | .clearAccount => { a with entitlements := [], serviceKeys := [], purse := 0, sequence := none }

/-- Whether a number is a 32-bit one: a time in UTC seconds, or a unit address. -/
def isUtc (n : Nat) : Bool := decide (n ≤ 4294967295)

/-- Whether a number is one of 1 to 65,535: an access class, or a group. -/
def isNumbered (n : Nat) : Bool := decide (1 ≤ n) && decide (n ≤ 65535)

/-- Whether a number is one of 0 to 255. -/
def fitsByte (n : Nat) : Bool := decide (n ≤ 255)

/-- Whether an address lies in the ranges of R102. -/
def addressInRange : Address → Bool
  | .unique unit => isUtc unit
  | .group group low high => isNumbered group && fitsByte low && fitsByte high
  | .all => true

/-- Whether the fields of a kind lie in the ranges of R102. -/
def kindInRange : EntitlementKind → Bool
  | .grant cls expiry renewBy => isNumbered cls && isUtc expiry && isUtc renewBy
  | .revoke cls => isNumbered cls
  | .serviceKey keyId _ validFrom validUntil => fitsByte keyId && isUtc validFrom && isUtc validUntil
  | .credit sequence amount => decide (sequence ≤ 65535) && decide (amount ≤ purseTop)
  | .groupAssign group position => decide (group ≤ 65535) && fitsByte position
  | .clearAccount => true

/-- Whether a message's fields lie in the ranges of R102; one whose fields do not is discarded (R101). -/
def entitlementInRange (m : EntitlementMessage) : Bool := addressInRange m.address && kindInRange m.kind

/-- Whether a message is addressed to this unit (R103). -/
def Account.addressed (a : Account) (x : Address) : Bool :=
  match x with
  | .unique u => decide (u = a.unitAddress)
  | .group g lo hi =>
    match a.group with
    | none => false
    | some m => decide (g = m.group) && decide (lo ≤ m.position) && decide (m.position ≤ hi)
  | .all => true

/-- Whether a kind is applied under an address: GROUP ASSIGN and CLEAR ACCOUNT need UNIQUE (R104 step 2). -/
def kindAllowed (x : Address) (k : EntitlementKind) : Bool :=
  match k, x with
  | .groupAssign _ _, .unique _ | .clearAccount, .unique _ => true
  | .groupAssign _ _, _ | .clearAccount, _ => false
  | _, _ => true

/-- The entitlement message that an entitlement cell brings, if any (R101). -/
def entitlementOf (c : Cell) : Option EntitlementMessage :=
  if c.scramble = .clear ∧ c.start = true then c.entitlement.filter entitlementInRange else none

/-! ## Lapse and debit -/

/-- Lapse: entitlements with a date at or before UTC and service keys whose valid-until is, are removed; nothing with time unset
(R113). -/
def Account.lapse (a : Account) (t : TimeBase) : Account :=
  { a with entitlements := a.entitlements.filter fun e => e.granted t,
           serviceKeys := a.serviceKeys.filter fun r => !t.reached r.validUntil }

/-- A debit: in full, or none when the purse holds less (R115). -/
def Account.debit (a : Account) (amount : Nat) : Option Account :=
  if amount ≤ a.purse then some { a with purse := a.purse - amount } else none

/-- A message that matches but fails its integrity check: the count rises, up to 65,535 (R104 step 1). -/
def Account.integrityFail (a : Account) : Account := { a with integrityFailures := min (a.integrityFailures + 1) 65535 }

end Sys2Proof.Machine
end

