-- ==== Sys2Proof/Machine/PurchaseList.lean ====
section
/-! DEFINITION. The purchase list: price terms, the offer, the charges due, one charge, the viewing clock, and cleanup, on the list
alone (R120 to R136). -/

namespace Sys2Proof.Machine

/-- The top of the 32-bit counters of a purchase record (R120). -/
def counterTop : Nat := 4294967295

/-- The capacity of the purchase list (R121). -/
def purchaseCapacity : Nat := 32

/-- Whether a record is the one of a service and event id. -/
def Purchase.is (p : Purchase) (service eventId : Nat) : Bool := decide (p.service = service) && decide (p.eventId = eventId)

/-- The record of a service and event id, if there is one (R121). -/
def findPurchase (l : List Purchase) (service eventId : Nat) : Option Purchase := l.find? fun p => p.is service eventId

/-- The list with the record of a service and event id changed in its place (R121). -/
def mapPurchase (l : List Purchase) (service eventId : Nat) (f : Purchase → Purchase) : List Purchase :=
  l.map fun p => if p.is service eventId then f p else p

/-- The price terms of an event record, none for an event that is neither FLAT nor METERED (R120). -/
def termsOf (e : Event) : Option Terms :=
  match e.priceMode with
  | .flat => some ⟨.flat, e.flatPrice, e.rate, e.interval, e.preview, e.cap, e.finish⟩
  | .metered => some ⟨.metered, e.flatPrice, e.rate, e.interval, e.preview, e.cap, e.finish⟩
  | _ => none

/-- A new record with terms and nothing viewed or charged (R123, R126). -/
def newPurchase (service eventId : Nat) (t : Terms) : Purchase :=
  { service := service, eventId := eventId, terms := t, state := .offered, charged := 0, taken := 0, clock := 0, exhausted := false,
    buyer := none }

/-- The charges due d(v) of a record: 0 before the preview ends, then one more for every interval begun (R130). -/
def chargesDue (t : Terms) (v : Nat) : Nat :=
  if v < spanLength t.preview then 0 else (v - spanLength t.preview) / spanLength t.interval + 1

/-- Whether a METERING record's charges due exceed its charges taken (R131). -/
def Purchase.chargeIsDue (p : Purchase) : Bool :=
  decide (p.state = .metering) && decide (p.taken < chargesDue p.terms p.clock)

/-- The amount of the next charge: the rate, or what is left up to the cap when that is smaller (R131 step 1). -/
def Purchase.amount (p : Purchase) : Nat :=
  if p.terms.cap = 0 then p.terms.rate else min p.terms.rate (p.terms.cap - p.charged)

/-- A record after a charge that is taken (R131 step 2). -/
def Purchase.pay (p : Purchase) : Purchase :=
  let q := min (p.charged + p.amount) counterTop
  { p with charged := q, taken := p.taken + 1, exhausted := false,
           state := if p.terms.cap ≠ 0 ∧ q = p.terms.cap then .paidInFull else p.state }

/-- Whether an OFFERED record's preview is still running (R124). -/
def Purchase.previewRuns (p : Purchase) : Bool :=
  decide (p.state = .offered) && decide (p.clock < spanLength p.terms.preview)

/-- Whether a record allows unwraps for its event (R92). -/
def Purchase.allowsUnwrap (p : Purchase) : Bool :=
  match p.state with
  | .offered => decide (p.clock < spanLength p.terms.preview)
  | .paid | .metering | .paidInFull => true

/-- Whether a record's viewing clock may advance at all (R129). -/
def Purchase.counts (p : Purchase) : Bool :=
  p.previewRuns || (decide (p.state = .metering) && !p.exhausted)

/-- A record with one more second viewed (R129). -/
def Purchase.advance (p : Purchase) : Purchase := { p with clock := min (p.clock + 1) counterTop }

/-- The end by which cleanup judges a record: the stored event's where it is stored, else the copied end time (R136). -/
def purchaseEnd (g : Guide) (p : Purchase) : Nat :=
  match g.event? p.service p.eventId with
  | some e => e.finish
  | none => p.terms.finish

/-- The time after an event's end at which its record is cleaned up, in seconds (R136). -/
def cleanupDelay : Nat := 3600

/-- Whether the spend ceiling of a profile covers the price of terms (R125). -/
def ceilingCovers (ceiling : Nat) (t : Terms) : Bool :=
  match t.mode with
  | .flat => decide (t.flatPrice ≤ ceiling)
  | .metered => if t.cap = 0 then decide (ceiling = 65535) else decide (t.cap ≤ ceiling)

/-- The record on which a BUY works, with the terms it copies and the viewing clock it keeps or sets, before any charge (R126). -/
def boughtRecord (l : List Purchase) (service eventId : Nat) (t : Terms) (buyer : ProfileId) : Purchase :=
  let kept := match findPurchase l service eventId with
    | some p => min p.clock (spanLength t.preview)
    | none => 0
  { newPurchase service eventId t with
    clock := kept, buyer := some buyer, state := match t.mode with | .flat => .paid | .metered => .metering }

/-- The list with a bought record in the place of the OFFERED one, or at the last place (R126). -/
def putBought (l : List Purchase) (p : Purchase) : List Purchase :=
  if (findPurchase l p.service p.eventId).isSome then mapPurchase l p.service p.eventId fun _ => p else l ++ [p]

/-- What BUY must be able to debit: the flat price, or a metered charge that is due at once (R125, R127, R128). -/
def dueAtBuy (p : Purchase) : Nat :=
  match p.terms.mode with
  | .flat => p.terms.flatPrice
  | .metered => if p.chargeIsDue then p.amount else 0

/-! ## One record at a time, as seen in a reply -/

/-- A list cut after a first entry and `room` further ones, and whether entries follow (R41, R118, R140). -/
def cutAfter {α : Type} : List α → Nat → List α × Bool
  | [], _ => ([], false)
  | x :: rest, room =>
    match room with
    | 0 => ([x], !rest.isEmpty)
    | n + 1 => (x :: (cutAfter rest n).1, (cutAfter rest n).2)

/-- A record as PURCHASES gives it: every field, and d(v) for a METERING or PAID IN FULL record (R140). -/
def Purchase.listed (p : Purchase) : Purchase × Option Nat :=
  (p, match p.state with
      | .metering | .paidInFull => some (chargesDue p.terms p.clock)
      | _ => none)

end Sys2Proof.Machine
end

