-- ==== Sys2Proof/Machine/Filter.lean ====
section
/-! DEFINITION. Label tables: listings, the four changes to them, the part-wide labels, and the continuity check (R13 to R17). -/

namespace Sys2Proof.Machine

/-- The labels of a context with their roles (R14). -/
abbrev Listing := List (Nat × Role)

/-- The listing of a service part: video, the selected audio, captions and the key message label (R13, R14). -/
def ServicePart.listing (p : ServicePart) : Listing :=
  [(p.video, .video), (p.audioLabel, .audio)]
    ++ (p.captions.map fun l => (l, Role.captions)).toList
    ++ (p.keyLabel.map fun l => (l, Role.key)).toList

/-- A table with a destination added under a label; a new entry has expectation none (R13). -/
def addDest : List LabelEntry → Nat → Dest → List LabelEntry
  | [], l, d => [{ label := l, dests := [d], expect := none }]
  | e :: es, l, d =>
    if l < e.label then { label := l, dests := [d], expect := none } :: e :: es
    else if l = e.label then { e with dests := insertIn Dest.all d e.dests } :: es
    else e :: addDest es l d

/-- A table without the destinations that `drop` names, and without the entries this leaves empty (R13). -/
def dropDests (t : List LabelEntry) (drop : Nat → Dest → Bool) : List LabelEntry :=
  (t.map fun e => { e with dests := e.dests.filter fun d => !drop e.label d }).filter fun e => !e.dests.isEmpty

/-- Whether a destination names a context. -/
def Dest.names (d : Dest) (c : CtxId) : Bool :=
  match d with
  | .ctx x _ => decide (x = c)
  | _ => false

/-- List: a context's listing is added to a table (R14). -/
def listIn (t : List LabelEntry) (c : CtxId) (l : Listing) : List LabelEntry :=
  l.foldl (fun t x => addDest t x.1 (.ctx c x.2)) t

/-- Unlist: every destination that names the context is removed (R14). -/
def unlistFrom (t : List LabelEntry) (c : CtxId) : List LabelEntry :=
  dropDests t fun _ d => d.names c

/-- Relist: the context's old listing is replaced by a new one; an entry whose label stays keeps its expectation (R14). -/
def relistIn (t : List LabelEntry) (c : CtxId) (l : Listing) : List LabelEntry :=
  dropDests (listIn t c l) fun lab d =>
    match d with
    | .ctx x r => decide (x = c) && !decide ((lab, r) ∈ l)
    | _ => false

/-- A context with `a` and `b` exchanged. -/
def ctxSwap (a b c : CtxId) : CtxId :=
  if c = a then b else if c = b then a else c

/-- A destination with the contexts `a` and `b` exchanged, its role unchanged. -/
def Dest.swap (a b : CtxId) : Dest → Dest
  | .ctx c r => .ctx (ctxSwap a b c) r
  | d => d

/-- Swap: two contexts' destinations are exchanged wherever they appear, and every entry keeps its expectation (R14). -/
def swapIn (t : List LabelEntry) (a b : CtxId) : List LabelEntry :=
  t.map fun e => { e with dests := canon Dest.all (e.dests.map (Dest.swap a b)) }

/-- The entry of a label, if the table has one. -/
def entryOf (t : List LabelEntry) (l : Nat) : Option LabelEntry :=
  t.find? fun e => decide (e.label = l)

/-- Whether a context lists a label in the key role (R86). -/
def listsKey (t : List LabelEntry) (l : Nat) (c : CtxId) : Bool :=
  match entryOf t l with
  | some e => decide (Dest.ctx c .key ∈ e.dests)
  | none => false

/-- List on an input of the block (R14). -/
def Block.list (b : Block) (i : TunerId) (c : CtxId) (l : Listing) : Block := b.setTable i (listIn (b.table i) c l)

/-- Unlist on an input of the block (R14). -/
def Block.unlist (b : Block) (i : TunerId) (c : CtxId) : Block := b.setTable i (unlistFrom (b.table i) c)

/-- Relist on an input of the block (R14). -/
def Block.relist (b : Block) (i : TunerId) (c : CtxId) (l : Listing) : Block := b.setTable i (relistIn (b.table i) c l)

/-- Swap on every input (R14). -/
def Block.swapListings (b : Block) (x y : CtxId) : Block :=
  { b with filter := { b.filter with tables := b.filter.tables.map fun t => swapIn t x y } }

/-- A tuner enters LOCKED: its part-wide labels are added (the guide label on the home multiplex alone), and every expectation of its
input's table becomes none (R15). -/
def Block.enterLocked (b : Block) (t : TunerId) : Block :=
  match b.link.home with
  | none => b.setTable t ((b.table t).map fun e => { e with expect := none })
  | some h =>
    let one := addDest (b.table t) h.entitlementLabel .entitlement
    let two := if (b.tuner t).mux = some h.mux then addDest one h.guideLabel .guide else one
    b.setTable t (two.map fun e => { e with expect := none })

/-- A tuner leaves LOCKED: its part-wide destinations are removed (R15). -/
def Block.leaveLocked (b : Block) (t : TunerId) : Block :=
  b.setTable t (dropDests (b.table t) fun _ d => decide (d = .entitlement) || decide (d = .guide))

/-- The expectation after a cell: its count plus one, modulo 16 (R17). -/
def nextExpect (count : Nat) : Nat := (count + 1) % 16

/-- Whether a cell's count is a continuity break against an entry (R17). -/
def LabelEntry.breaks (e : LabelEntry) (count : Nat) : Bool :=
  match e.expect with
  | none => false
  | some x => decide (count ≠ x)

/-- A table after the continuity check of a cell (R17). -/
def advanceExpect (t : List LabelEntry) (l count : Nat) : List LabelEntry :=
  t.map fun e => if e.label = l then { e with expect := some (nextExpect count) } else e

/-- The outputs that an entry names in any role, each once (R17); their order is the model's choice (log entry 16). -/
def LabelEntry.outputs (e : LabelEntry) : List OutId :=
  outIds.filter fun o => e.dests.any fun d => d.names (.out o)

/-- The contexts that list an entry's label in the key role, in order (R84). -/
def LabelEntry.keyContexts (e : LabelEntry) : List CtxId :=
  CtxId.all.filter fun c => decide (Dest.ctx c .key ∈ e.dests)

/-- The mark of a new copy for a context in a role: the first of the entry's destinations that name the context outside the key role has the
first copy (log entry 37). -/
def LabelEntry.markOf (e : LabelEntry) (x : CtxId) (r : Role) : CopyMark :=
  if e.dests.find? (fun d => d.names x && decide (d ≠ .ctx x .key)) = some (.ctx x r) then .first else .later

/-- The copies of a cell that step 6 of R16 makes for an entry's destinations on an input whose tuner is on a multiplex; the copies in the
key role are one arrival at the Key Unit (R84). -/
def LabelEntry.copies (e : LabelEntry) (i : TunerId) (mux : Option Mux) (c : Cell) : List Copy :=
  (e.dests.filterMap fun d =>
    match d with
    | .ctx _ .key => none
    | .ctx x r => some (Copy.output i x r c (e.markOf x r))
    | .entitlement => some (Copy.entitlement i c)
    | .guide => some (Copy.guide i c))
  ++ (if e.keyContexts.isEmpty then [] else [Copy.key i mux e.keyContexts c])

/-- What the copies that must be taken in their order of arrival have in common (R16): the input, the destination and the label.  For a
context at the Output Engines it is the input and the context alone, because the cells of all its labels keep their order (R75, R174). -/
inductive Lane where
  | output (i : TunerId) (ctx : CtxId)
  | key (i : TunerId) (label : Nat)
  | entitlement (i : TunerId) (label : Nat)
  | guide (i : TunerId) (label : Nat)
  deriving DecidableEq, Repr

/-- The lane of a copy. -/
def Copy.lane : Copy → Lane
  | .output i x _ _ _ => .output i x
  | .key i _ _ c => .key i c.label
  | .entitlement i c => .entitlement i c.label
  | .guide i c => .guide i c.label

/-- The cell of a copy. -/
def Copy.cell : Copy → Cell
  | .output _ _ _ c _ | .key _ _ _ c | .entitlement _ c | .guide _ c => c

/-- The next copy on a lane: of those that wait there, the one that arrived first (R16). -/
def CellFilter.next (f : CellFilter) (l : Lane) : Option Copy :=
  f.copies.find? fun x => decide (x.lane = l)

/-- The block without the next copy on a lane. -/
def Block.dropCopy (b : Block) (l : Lane) : Block :=
  { b with filter := { b.filter with copies := b.filter.copies.eraseP fun x => decide (x.lane = l) } }

/-- A copy is taken by its block, which acts on it: the copy must be the next one on its lane.  No other copy can be taken, so where a command
names one that is not next, or that no cell has brought, nothing happens (R16; log entries 3 and 10). -/
def Block.takeCopy (b : Block) (l : Lane) (named : Copy → Bool) (act : Copy → Block → Block) : Block :=
  match b.filter.next l with
  | none => b
  | some x => if named x then act x (b.dropCopy l) else b

/-- The mark of a copy at the Output Engines; another block's copy has none, and counts as the first. -/
def Copy.mark : Copy → CopyMark
  | .output _ _ _ _ m => m
  | _ => .first

/-- Whether a copy is one of a cell for a context in a role from an input, whatever its mark. -/
def Copy.isOutput (x : Copy) (i : TunerId) (ctx : CtxId) (role : Role) (c : Cell) : Bool :=
  decide (x = .output i ctx role c x.mark)

/-- The copies that wait once a cell of a context has raised KEY GAP: the further ones of that cell, which come before the next cell's first on
their lane, are marked (R184; log entry 37). -/
def markRaised (i : TunerId) (ctx : CtxId) : List Copy → List Copy
  | [] => []
  | .output j x r c m :: rest =>
    if j = i ∧ x = ctx then
      if m = .first then .output j x r c m :: rest else .output j x r c .raised :: markRaised i ctx rest
    else .output j x r c m :: markRaised i ctx rest
  | y :: rest => y :: markRaised i ctx rest

/-- A cell of a context has raised KEY GAP, and its further copies know it. -/
def Block.noteRaised (b : Block) (i : TunerId) (ctx : CtxId) : Block :=
  { b with filter := { b.filter with copies := markRaised i ctx b.filter.copies } }

end Sys2Proof.Machine
end

