-- ==== Sys2Proof/Machine/Keys.lean ====
section
/-! DEFINITION. Key slots and the key queue: allocation by tag, leaving a slot, the exchange of users, offers and the arbiter's choice
(R78 to R89). -/

namespace Sys2Proof.Machine

/-- The unit with slot `k` replaced. -/
def KeyUnit.setSlot (u : KeyUnit) (k : SlotId) (x : KeySlot) : KeyUnit := { u with slots := vset u.slots k x }

/-- The next generation of a slot, from 65,535 back to 0 (R78). -/
def nextGeneration (g : Nat) : Nat := (g + 1) % 65536

/-- A slot taken for a tag by its first user (R79 step 3). -/
def KeySlot.taken (x : KeySlot) (tag : KeyTag) (c : CtxId) : KeySlot :=
  { KeySlot.freed (nextGeneration x.generation) with state := .await, tag := some tag, users := [c] }

/-- The lowest-numbered slot that satisfies a test. -/
def KeyUnit.firstSlot (u : KeyUnit) (test : KeySlot → Bool) : Option SlotId :=
  slotIds.find? fun k => test (u.slots.get k)

/-- Whether a slot is in AWAIT, UNWRAP or LIVE. -/
def KeySlot.inUse (x : KeySlot) : Bool :=
  match x.state with
  | .await | .unwrap | .live => true
  | _ => false

/-- A slot is obtained by tag for a context: join, return, take or reclaim, in that order (R79).  DEDUCED: a return keeps the refusal mark, which R79
does not list (log entry 22). -/
def KeyUnit.obtain (u : KeyUnit) (c : CtxId) (tag : KeyTag) : KeyUnit × Option SlotRef :=
  match u.firstSlot (fun x => x.inUse && decide (x.tag = some tag)) with
  | some k =>
    let x := u.slots.get k
    (u.setSlot k { x with users := insertIn CtxId.all c x.users }, some { slot := k, generation := x.generation })
  | none =>
    match u.firstSlot (fun x => decide (x.state = .retained) && decide (x.tag = some tag)) with
    | some k =>
      let x := u.slots.get k
      ({ u.setSlot k { x with state := .live, users := [c] } with retained := removeFrom k u.retained },
        some { slot := k, generation := x.generation })
    | none =>
      match u.firstSlot (fun x => decide (x.state = .free)) with
      | some k =>
        let x := (u.slots.get k).taken tag c
        (u.setSlot k x, some { slot := k, generation := x.generation })
      | none =>
        match u.retained with
        | [] => (u, none)
        | k :: rest =>
          let x := (u.slots.get k).taken tag c
          ({ u.setSlot k x with retained := rest }, some { slot := k, generation := x.generation })

/-- The key queue without a slot's entry (R80, R88). -/
def KeyUnit.dropEntry (u : KeyUnit) (k : SlotId) : KeyUnit :=
  { u with queue := u.queue.filter fun e => decide (e.slot ≠ k) }

/-- A context leaves a slot; a slot left without users becomes RETAINED or FREE and loses its queue entry (R80).
DEDUCED: a slot that becomes RETAINED keeps its refusal mark, which R80 does not list (log entry 22). -/
def KeyUnit.leave (u : KeyUnit) (c : CtxId) (k : SlotId) : KeyUnit :=
  let x := u.slots.get k
  if c ∈ x.users then
    let users := removeFrom c x.users
    if users ≠ [] then u.setSlot k { x with users := users }
    else if u.retention && x.retain then
      { (u.setSlot k { x with state := .retained, users := [] }).dropEntry k with retained := u.retained ++ [k] }
    else (u.setSlot k (KeySlot.freed x.generation)).dropEntry k
  else u

/-- An exchange: on every slot, a user entry naming one context is made to name the other (R82). -/
def KeyUnit.exchange (u : KeyUnit) (a b : CtxId) : KeyUnit :=
  { u with slots := u.slots.map fun x => { x with users := canon CtxId.all (x.users.map (ctxSwap a b)) } }

/-- The Key Unit after the reset line or RESTART, with the retention setting given (R97). -/
def KeyUnit.reset (u : KeyUnit) (retention : Bool) : KeyUnit :=
  { slots := u.slots.map fun x => KeySlot.freed x.generation, retained := [], queue := [], nextArrival := 1, engine := none,
    retention := retention }

/-- The tag of a service part: its multiplex index with its key message label, none for a clear service (R74). -/
def ServicePart.tag? (p : ServicePart) : Option KeyTag :=
  p.keyLabel.map fun l => { muxIndex := p.muxIndex, label := l }

/-- Leaving the slot that a context holds, if it holds one. -/
def KeyUnit.leaveRef (u : KeyUnit) (c : CtxId) (r : Option SlotRef) : KeyUnit :=
  match r with
  | some x => u.leave c x.slot
  | none => u

/-- The slot of a context follows a tag: the slot by the tag is obtained first, and another slot the context used is then left; without a
tag the context leaves its slot (R51 step 3, R74). -/
def KeyUnit.follow (u : KeyUnit) (c : CtxId) (old : Option SlotRef) (tag : Option KeyTag) : KeyUnit × Option SlotRef :=
  match tag with
  | none => (u.leaveRef c old, none)
  | some t =>
    let got := u.obtain c t
    if got.2.map (·.slot) = old.map (·.slot) then got else (got.1.leaveRef c old, got.2)

/-- The matched slots of a key message: those with a user that lists its label in the key role on its input (R86). -/
def KeyUnit.matched (u : KeyUnit) (table : List LabelEntry) (label : Nat) : List SlotId :=
  slotIds.filter fun k => (u.slots.get k).users.any (listsKey table label)

/-- A message is offered for a slot: it makes the slot's queue entry, is discarded against one of the same version, or replaces the
message of one of another version in place (R87). -/
def KeyUnit.offer (u : KeyUnit) (k : SlotId) (m : KeyMessage) : KeyUnit :=
  let g := (u.slots.get k).generation
  match u.queue.find? fun e => decide (e.slot = k) with
  | none =>
    { u with queue := u.queue ++ [{ slot := k, generation := g, message := m, arrival := u.nextArrival }],
             nextArrival := u.nextArrival + 1 }
  | some e =>
    if e.message.version = m.version then u
    else { u with queue := u.queue.map fun x => if x.slot = k then { x with generation := g, message := m } else x }

/-- The checks of R86 before an offer: the version last applied and the version in flight for the slot are discarded. -/
def KeyUnit.isRepeat (u : KeyUnit) (k : SlotId) (m : KeyMessage) : Bool :=
  decide ((u.slots.get k).lastVersion = some m.version) ||
    (match u.engine with
     | some w => decide (w.slot = k) && decide (w.message.version = m.version)
     | none => false)

/-- A message reaches a matched slot (R86). -/
def KeyUnit.receive (u : KeyUnit) (k : SlotId) (m : KeyMessage) : KeyUnit :=
  if u.isRepeat k m then u else u.offer k m

/-- The fields of a key message lie in the ranges of R85; a payload whose fields do not forms no key message (R84). -/
def keyMessageInRange (m : KeyMessage) : Bool :=
  decide (m.serviceKeyId ≤ 255) && decide (m.version ≤ 255) && decide (m.accessClass ≤ 65535) && decide (m.event ≤ 65535)

/-- The key message that a key-role cell brings, if any (R84). -/
def keyMessageOf (c : Cell) : Option KeyMessage :=
  if c.scramble = .clear ∧ c.start = true then c.keyMessage.filter keyMessageInRange else none

/-- Among entries in arrival order, the first that satisfies a test, else the first (R89). -/
def choose (first : QueueEntry → Bool) (q : List QueueEntry) : Option QueueEntry :=
  match q.find? first with
  | some e => some e
  | none => q.head?

end Sys2Proof.Machine
end

