-- ==== Sys2Proof/Machine/Tuners.lean ====
section
/-! DEFINITION. The Tuner Pool: orders, allocation, preemption, release; and what the acquirer and the warm contexts do at once when
the pool grants or takes a tuner (R3 to R8, R20 to R22, R63). -/

namespace Sys2Proof.Machine

/-! ## Orders (R8) -/

/-- The next order number, from 65,535 back to 0 (R8). -/
def nextOrder (n : Nat) : Nat := (n + 1) % 65536

/-- An order goes out on a tuning line. -/
def Block.sendOrder (b : Block) (t : TunerId) (x : Order) : Block :=
  { b with ports := { b.ports with tuning := vset b.ports.tuning t (b.ports.tuning.get t ++ [x]) } }

/-- A TUNE ORDER goes out with the next order number (R8). -/
def Block.sendTune (b : Block) (t : TunerId) (m : Mux) : Block :=
  let n := nextOrder (b.tuner t).order
  (b.setTuner t { b.tuner t with order := n }).sendOrder t (.tune n m)

/-- A HALT ORDER goes out with the next order number (R8). -/
def Block.sendHalt (b : Block) (t : TunerId) : Block :=
  let n := nextOrder (b.tuner t).order
  (b.setTuner t { b.tuner t with order := n }).sendOrder t (.halt n)

/-! ## Allocation (R3, R4) -/

/-- The strength of a holder class: PRIMARY over WARM over GUIDE (R3). -/
def HolderClass.rank : HolderClass → Nat
  | .primary => 2
  | .warm => 1
  | .guide => 0

/-- Whether a tuner is in TUNING, LOCKED or RETRY. -/
def Tuner.inUse (x : Tuner) : Bool :=
  match x.state with
  | .tuning | .locked | .retry => true
  | _ => false

/-- The strength of the strongest holder of a tuner (R4). -/
def Tuner.strongest (x : Tuner) : Nat :=
  x.holders.foldl (fun m h => max m h.cls.rank) 0

/-- Whether a holder is in a tuner's holder list. -/
def Tuner.holds (x : Tuner) (who : HolderId) : Bool :=
  x.holders.any fun h => decide (h.who = who)

/-- The steps of R4 that grant a tuner. -/
inductive GrantStep where
  | share | free | preempt
  deriving DecidableEq, Repr

/-- Which tuner serves a request, by the first step of R4 that applies; none when the request is refused. -/
def chooseTuner (p : TunerPool) (cls : HolderClass) (m : Mux) : Option (TunerId × GrantStep) :=
  match tunerIds.find? fun t => (p.tuners.get t).inUse && decide ((p.tuners.get t).mux = some m) with
  | some t => some (t, .share)
  | none =>
    match tunerIds.find? fun t => decide ((p.tuners.get t).state = .free) with
    | some t => some (t, .free)
    | none =>
      match (List.range cls.rank).findSome? fun v =>
          tunerIds.find? fun t => (p.tuners.get t).inUse && decide ((p.tuners.get t).strongest = v) with
      | some t => some (t, .preempt)
      | none => none

/-- A tuner is ordered to a multiplex for one holder: TUNE ORDER, TUNING, lock timer started (R6). -/
def Block.startTuning (b : Block) (t : TunerId) (m : Mux) (h : Holder) : Block :=
  let sent := b.sendTune t m
  sent.setTuner t { sent.tuner t with
    state := .tuning, mux := some m, holders := [h], timer := some { kind := .lock, left := b.pool.lockTimeout } }

/-! ## Eviction (R5, R63, R21) -/

/-- A slot is left by a context of the Output Engines (R80). -/
def Block.leaveSlot (b : Block) (c : CtxId) (r : Option SlotRef) : Block := { b with keys := b.keys.leaveRef c r }

/-- A service part without tuner, signal status and slot (R63, R71, R73). -/
def ServicePart.untuned (p : ServicePart) : ServicePart := { p with tuner := none, signal := none, slot := none }

/-- A warm context takes a new state and service part; a change of its state or of its service posts a WARM notice (R64). -/
def Block.putWarm (b : Block) (p : PresId) (w : Warm) : Block :=
  let old := b.warm p
  let set := b.setWarm p w
  if old.state ≠ w.state ∨ old.part.map (·.service) ≠ w.part.map (·.service) then set.postWarm p else set

/-- A warm context receives EVICTED: it leaves its slot and goes COLD, keeping its service (R63). -/
def Block.evictWarm (b : Block) (p : PresId) : Block :=
  let w := b.warm p
  (b.leaveSlot (.warm p) (w.part.bind (·.slot))).putWarm p { state := .cold, part := w.part.map ServicePart.untuned }

/-- The acquirer takes a new state and tuner, and a GUIDE notice is posted (R20). -/
def Block.putAcquirer (b : Block) (s : AcquirerState) (t : Option TunerId) : Block :=
  { b with guide := { b.guide with acquirer := { state := s, tuner := t } } }.postGuide

/-- The EVICTED report of one holder (R5).  An output context is a PRIMARY holder and is never evicted. -/
def Block.evictHolder (b : Block) (h : Holder) : Block :=
  match h.who with
  | .ctx (.warm p) => b.evictWarm p
  | .ctx (.out _) => b
  | .acquirer => b.putAcquirer .paused none

/-- The listing of one holder is removed from a tuner's table; the acquirer's is empty (R14). -/
def Block.unlistHolder (b : Block) (t : TunerId) (who : HolderId) : Block :=
  match who with
  | .ctx c => b.unlist t c
  | .acquirer => b

/-- A tuner is taken from its holders: each is evicted in join order and its listing removed, and a LOCKED tuner loses its part-wide
labels (R5). -/
def Block.evictAll (b : Block) (t : TunerId) : Block :=
  let x := b.tuner t
  let cleared := x.holders.foldl (fun b h => (b.unlistHolder t h.who).evictHolder h) b
  if x.state = .locked then cleared.leaveLocked t else cleared

/-! ## Grants -/

/-- A holder joins a tuner's list at its end, if it is not already in it (R4 step 1). -/
def Block.joinTuner (b : Block) (t : TunerId) (h : Holder) : Block :=
  let x := b.tuner t
  b.setTuner t { x with holders := x.holders ++ [h] }

/-- A holder's listing is added to a tuner's table as it joins (R6). -/
def Block.listHolder (b : Block) (t : TunerId) (who : HolderId) (l : Listing) : Block :=
  match who with
  | .ctx c => b.list t c l
  | .acquirer => b

/-- An allocation request (R4): the block afterwards with the tuner and its state at the grant, or none with NO TUNER.  The multiplex is
none when its name resolves to nothing, which is refused (R3). -/
def Block.allocate (b : Block) (who : HolderId) (cls : HolderClass) (m : Option Mux) (l : Listing) :
    Option (Block × TunerId × TunerState) :=
  match m with
  | none => none
  | some m =>
    match chooseTuner b.pool cls m with
    | none => none
    | some (t, .share) =>
      if (b.tuner t).holds who then some (b, t, (b.tuner t).state)
      else some ((b.joinTuner t { who := who, cls := cls }).listHolder t who l, t, (b.tuner t).state)
    | some (t, .free) =>
      some ((b.startTuning t m { who := who, cls := cls }).listHolder t who l, t, .free)
    | some (t, .preempt) =>
      some (((b.evictAll t).startTuning t m { who := who, cls := cls }).listHolder t who l, t, .tuning)

/-- The signal status that a grant sets, by the tuner's state at the grant; a tuner taken FREE or by preemption is TUNING from then on
(R49). -/
def grantSignal (s : TunerState) : Signal :=
  match s with
  | .locked => .locked
  | .retry => .notLocked
  | _ => .pending

/-! ## The acquirer's request (R20, R22) -/

/-- The acquirer asks for the home multiplex with class GUIDE: COLLECTING on a LOCKED tuner, TUNING on any other, none when refused
(R20). -/
def Block.askForHome (b : Block) : Option Block :=
  match b.allocate .acquirer .guide (b.link.home.map (·.mux)) [] with
  | none => none
  | some (c, t, s) => some (c.putAcquirer (if s = .locked then .collecting else .tuning) (some t))

/-- The acquirer's request at START and after RESTART: a refusal leaves it in WAIT TUNER (R20, R22). -/
def Block.firstRequest (b : Block) : Block :=
  match b.askForHome with
  | some c => c
  | none => b.putAcquirer .waitTuner none

/-- A signal of the Tuner Pool to the Guide Store: in WAIT TUNER and PAUSED the acquirer asks again, and a refusal changes nothing
(R22). -/
def Block.signalGuide (b : Block) : Block :=
  match b.guide.acquirer.state with
  | .waitTuner | .paused => b.askForHome.getD b
  | _ => b

/-! ## Release (R7) -/

/-- A holder leaves a tuner it is in the list of.  The last one to leave halts and frees it, removes the part-wide labels if it was LOCKED, and signals the
Guide Store. -/
def Block.releaseTuner (b : Block) (who : HolderId) (t : TunerId) : Block :=
  let x := b.tuner t
  let left := x.holders.filter fun h => decide (h.who ≠ who)
  let out := b.unlistHolder t who
  if x.holds who = false then b
  else if left ≠ [] then out.setTuner t { x with holders := left }
  else
    let halted := out.sendHalt t
    let freed := halted.setTuner t { halted.tuner t with state := .free, mux := none, holders := [], timer := none }
    (if x.state = .locked then freed.leaveLocked t else freed).signalGuide

/-- The release of the tuner that a context holds, if it holds one. -/
def Block.releaseRef (b : Block) (c : CtxId) (t : Option TunerId) : Block :=
  match t with
  | some x => b.releaseTuner (.ctx c) x
  | none => b

end Sys2Proof.Machine
end

