-- ==== Sys2Proof/Machine/Verdict.lean ====
section
/-! DEFINITION. The presentation verdict and what hangs on it: the ordered test, the delivery state, current-event selection, faults and
containment (R38, R39, R50, R123, R157 to R169, R183 to R190). -/

namespace Sys2Proof.Machine

/-! ## The offer (R123) -/

/-- The Purchase Unit's answer to an offer for an event without a record (R123). -/
inductive OfferAnswer where
  | created | listFull | none
  deriving DecidableEq, Repr

/-- The Purchase Unit offers an event that has no record (R123). -/
def Block.offer (b : Block) (service : Nat) (e : Event) : Block × OfferAnswer :=
  match termsOf e with
  | Option.none => (b, .none)
  | some t =>
    if spanLength t.preview = 0 then (b, .none)
    else if b.purchases.length < purchaseCapacity then
      let p := newPurchase service e.eventId t
      (({ b with purchases := b.purchases ++ [p] } : Block).postPurchase .offered (some p), .created)
    else (b, .listFull)

/-! ## The ordered test (R160) -/

/-- The result of an evaluation (R157). -/
inductive Result where
  | live (p : Pass)
  | keying (p : Pass)
  | held (h : Held)
  deriving DecidableEq, Repr

/-- The stored record of an output's current event (R148, R163, R164; an event that is not stored reads as none, log entry 13). -/
def Block.currentRecord (b : Block) (x : Output) : Option Event :=
  x.current.bind fun c => b.guide.event? c.service c.eventId

/-- Step 1, the signal and service test (R161). -/
def Block.signalTest (b : Block) (p : ServicePart) : Option Held :=
  if p.tuner = none ∨ p.signal ≠ some .locked then some .noSignal
  else if (b.guide.service? p.service).isNone then some .noService
  else none

/-- Step 2, the parental test of a presentation output (R151, R162). -/
def Block.parentalTest (b : Block) (p : PresId) (x : Output) : Option Held :=
  let e := b.currentRecord x
  (b.profile (b.boundProfile p)).parentalAnswer (x.override.map (·.scope)) b.guide.time.minute?
    ((e.map (·.rating)).getD 0) ((e.map (·.categories)).getD 0)

/-- Step 3, the copy test of a record output (R163). -/
def Block.copyTest (b : Block) (x : Output) : Option Held :=
  match b.currentRecord x with
  | some e => if e.copy = .noMore ∨ e.copy = .never then some .copyBlocked else none
  | none => none

/-- Steps 2 and 3: a presentation output skips the copy test and a record output the parental test (R160). -/
def Block.screenTest (b : Block) (o : OutId) (x : Output) : Option Held :=
  match outPres? o with
  | some p => b.parentalTest p x
  | none => b.copyTest x

/-- What a purchase record gives the access test (R165). -/
def Purchase.access (p : Purchase) : Except Held Pass :=
  match p.state with
  | .paid | .paidInFull => .ok .paid
  | .metering => if p.exhausted then .error .creditExhausted else .ok .metered
  | .offered => if p.clock < spanLength p.terms.preview then .ok .preview else .error .needsPurchase

/-- The purchase branch of the access test, with the offer where there is no record (R165). -/
def Block.purchaseTest (b : Block) (service : Nat) (e : Event) : Block × Except Held Pass :=
  match findPurchase b.purchases service e.eventId with
  | some p => (b, p.access)
  | none =>
    match b.offer service e with
    | (c, .created) => (c, .ok .preview)
    | (c, _) => (c, .error .needsPurchase)

/-- Step 4, the access test (R164). -/
def Block.accessTest (b : Block) (p : ServicePart) (x : Output) : Block × Except Held Pass :=
  match b.currentRecord x with
  | none =>
    let cls := ((b.guide.service? p.service).map (·.defaultClass)).getD 0
    if cls = 0 then (b, .ok .freeView)
    else if b.account.granted b.guide.time cls then (b, .ok .entitled)
    else (b, .error .notEntitled)
  | some e =>
    if e.accessClass = 0 then (b, .ok .freeView)
    else if b.account.granted b.guide.time e.accessClass then (b, .ok .entitled)
    else
      match e.priceMode with
      | .free => (b, .error .notEntitled)
      | .unpriced => (b, .error .needsPurchase)
      | .flat | .metered => b.purchaseTest p.service e

/-- Steps 5 and 6, the key test with the pass verdict of the access test (R166, R167). -/
def Block.keyTest (b : Block) (p : ServicePart) (pass : Pass) : Result :=
  if p.keyLabel = none then .live pass
  else
    match p.slot with
    | none => .keying pass
    | some r =>
      let k := b.slot r.slot
      match k.state with
      | .live => .live pass
      | .await => if k.mark.isSome then .held .noKey else .keying pass
      | _ => .keying pass

/-- The ordered test of an output with a service part; the offer of step 4 is the one change it makes elsewhere (R160). -/
def Block.judge (b : Block) (o : OutId) (p : ServicePart) : Block × Result :=
  let x := b.out o
  match b.signalTest p with
  | some h => (b, .held h)
  | none =>
    match b.screenTest o x with
    | some h => (b, .held h)
    | none =>
      match b.accessTest p x with
      | (c, .error h) => (c, .held h)
      | (c, .ok pass) => (c, c.keyTest p pass)

/-! ## The delivery state (R50) -/

/-- What a result puts in the verdict field (R157). -/
def Result.verdict : Result → Verdict
  | .live p | .keying p => .pass p
  | .held h => .held h

/-- What a result shows as the delivery state when nothing before it in R50 applies. -/
def Result.delivery : Result → Delivery
  | .live _ => .live
  | .keying _ => .keying
  | .held h => .held h

/-- The delivery state of an output with a result: the first case of R50 that applies. -/
def Output.deliveryWith (x : Output) (r : Result) : Delivery :=
  match x.part with
  | none => .off
  | some p =>
    match x.restLevel with
    | .light => .restLight
    | .deep => .restDeep
    | .awake => if x.fault.reason.isSome then .contained else if p.signal = some .pending then .tuning else r.delivery

/-- An output takes a result: verdict, delivery state, and silence count 0 on an entry to LIVE (R76, R157, R168). -/
def Output.settle (x : Output) (r : Result) : Output :=
  let d := x.deliveryWith r
  { x with verdict := some r.verdict, delivery := d, silence := if d = .live ∧ x.delivery ≠ .live then 0 else x.silence }

/-- An output takes a result, and an OUTPUT notice is posted on a change of verdict or delivery state, or where the event calls for one
whatever it found (R168, R169). -/
def Block.takeResult (b : Block) (o : OutId) (r : Result) (always : Bool) : Block :=
  let old := b.out o
  let new := old.settle r
  let set := b.setOut o new
  if always ∨ old.verdict ≠ new.verdict ∨ old.delivery ≠ new.delivery then set.postOutput o else set

/-- Whether an event of R158 passes an output over: its service part is empty or it rests. -/
def Output.passedOver (x : Output) : Bool := x.part.isNone || decide (x.restLevel ≠ .awake)

/-- Whether a result newly holds an output COPY BLOCKED (R163). -/
def newlyBlocked (old : Option Verdict) (r : Result) : Bool :=
  decide (r = .held .copyBlocked) && decide (old ≠ some (.held .copyBlocked))

/-! ## Faults and containment (R183 to R187) -/

/-- A fault block with a class added to its status set (R186). -/
def FaultBlock.note (f : FaultBlock) (c : FaultClass) : FaultBlock := { f with status := insertIn FaultClass.all c f.status }

/-- The log record of a raise (R183, R184). -/
def Block.logOf (b : Block) (o : OutId) (c : FaultClass) (label : Nat) : FaultLog :=
  let x := b.out o
  { cls := c, utc := b.guide.time.utc, tuner := x.part.bind (·.tuner), label := label, eventId := x.current.map (·.eventId),
    slot := (x.part.bind (·.slot)).map (·.slot) }

/-- A fault block after a raise that is recorded (R186 step 3). -/
def FaultBlock.record (f : FaultBlock) (l : FaultLog) : FaultBlock :=
  match f.pointer with
  | none => { f.note l.cls with pointer := some l.cls, log := some l }
  | some _ => f.note l.cls

/-- The block with the fault block of an output replaced. -/
def Block.setFault (b : Block) (o : OutId) (f : FaultBlock) : Block := b.setOut o { b.out o with fault := f }

/-- An output enters containment: reason, override removed, verdict evaluated, CONTAINED, OUTPUT notice (R187).  A COPY VIOLATION that
this evaluation raises finds the output contained and is handled by R186 step 2 or masked. -/
def Block.enterContainment (b : Block) (o : OutId) (reason : ContainReason) : Block :=
  let x := b.out o
  let marked := b.setOut o { x with override := none, fault := { x.fault with reason := some reason } }
  match x.part with
  | none => marked
  | some p =>
    let judged := marked.judge o p
    let noted :=
      if newlyBlocked x.verdict judged.2 ∧ FaultClass.copyViolation ∉ x.fault.mask then
        judged.1.setFault o ((judged.1.out o).fault.note .copyViolation)
      else judged.1
    noted.takeResult o judged.2 true

/-- A fault is raised on an output and handled by its policy and state (R186). -/
def Block.raise (b : Block) (o : OutId) (c : FaultClass) (label : Nat) : Block :=
  let x := b.out o
  if c ∈ x.fault.mask then b
  else if x.delivery = .contained then b.setFault o (x.fault.note c)
  else
    let recorded := (b.setFault o (x.fault.record (b.logOf o c label))).postFault o (some c)
    if c ∈ x.fault.contain ∧ x.fault.enable = true ∧ x.restLevel = .awake then recorded.enterContainment o (.fault c) else recorded

/-! ## Evaluation (R158) -/

/-- The verdict of an output is evaluated, its delivery state recomputed, and COPY VIOLATION raised where the result newly holds it COPY
BLOCKED (R158, R163).  An output that is empty or rests is passed over.  DESIGN CHOICE: R163 says only that the fault is raised in the same
change; the result and its OUTPUT notice come first, then the raise with its FAULT notice (log entry 16).  A CONTAINED output takes the raise
by R186 step 2, also where the evaluation is that of a RECORD START, of which R172 says that it does not change the fault block (DESIGN
CHOICE, log entry 18). -/
def Block.evaluateWith (b : Block) (o : OutId) (always : Bool) : Block :=
  let x := b.out o
  if x.restLevel ≠ .awake then b
  else
    match x.part with
    | none => b
    | some p =>
      let judged := b.judge o p
      let taken := judged.1.takeResult o judged.2 always
      if newlyBlocked x.verdict judged.2 then taken.raise o .copyViolation p.video else taken

/-- The verdict of an output is evaluated (R158). -/
def Block.evaluate (b : Block) (o : OutId) : Block := b.evaluateWith o false

/-- The verdicts of several outputs are evaluated one after the other (R158). -/
def Block.evaluateAll (b : Block) (l : List OutId) : Block := l.foldl Block.evaluate b

/-- The account has changed: every output is evaluated (R105, R158). -/
def Block.tellAccount (b : Block) : Block := b.evaluateAll outIds

/-- Whether an output's current event is the one of a service and event id. -/
def Output.showsEvent (x : Output) (service eventId : Nat) : Bool :=
  match x.current with
  | some c => decide (c.service = service) && decide (c.eventId = eventId)
  | none => false

/-- A purchase record has changed: every output whose current event is its event is evaluated (R138). -/
def Block.tellPurchase (b : Block) (service eventId : Nat) : Block :=
  b.evaluateAll (outIds.filter fun o => (b.out o).showsEvent service eventId)

/-- The presentation outputs bound to a profile, in order (R146, R154). -/
def Block.boundOutputs (b : Block) (p : ProfileId) : List PresId :=
  presIds.filter fun x => decide (b.boundProfile x = p)

/-- A profile has changed: every presentation output bound to it is evaluated (R154). -/
def Block.tellProfile (b : Block) (p : ProfileId) : Block :=
  b.evaluateAll ((b.boundOutputs p).map presOut)

/-! ## Current events (R38, R39) -/

/-- The current event that a selection finds for an output's service (R38). -/
def Block.currentFor (b : Block) (service : Nat) : Option CurrentEvent :=
  if b.guide.time.utc.isSome ∧ (b.guide.service? service).isSome then
    (b.guide.onAir? service).map fun e => ⟨service, e.eventId, e.start, e.finish⟩
  else none

/-- An output takes the current event that a selection found; a change of current event ends its override (R39, R156). -/
def Output.select (x : Output) (new : Option CurrentEvent) : Output :=
  { x with current := new,
           override := if x.current.map (·.eventId) = new.map (·.eventId) then x.override else none }

/-- The current event of an output is selected; an output without a service is left (R38). -/
def Block.selectCurrent (b : Block) (o : OutId) : Block :=
  let x := b.out o
  match x.part with
  | none => b
  | some p => b.setOut o (x.select (b.currentFor p.service))

/-- The current event of an output is selected and its verdict evaluated, whatever the selection found (R39, R158). -/
def Block.selectAndEvaluate (b : Block) (o : OutId) : Block := (b.selectCurrent o).evaluate o

/-- The same for several outputs, one after the other (R158). -/
def Block.selectAll (b : Block) (l : List OutId) : Block := l.foldl Block.selectAndEvaluate b

end Sys2Proof.Machine
end

