-- ==== Sys2Proof/Machine/Reports.lean ====
section
/-! DEFINITION. Reports between blocks: the Tuner Pool's to holders, the Key Unit's to users, the arbiter and the completion of an
unwrap, charging and the viewing clocks, lapse, cleanup and day resets (R9, R21, R49, R63, R83, R89 to R94, R113, R129 to R137, R153). -/

namespace Sys2Proof.Machine

/-! ## Tuner reports (R11) -/

/-- The reports of the Tuner Pool to a holder that do not take its tuner (R11). -/
inductive TunerReport where
  | locked | timedOut | lost
  deriving DecidableEq, Repr

/-- The signal status after a report (R49). -/
def TunerReport.signal : TunerReport → Signal
  | .locked => .locked
  | .timedOut | .lost => .notLocked

/-- A report to an output context: its signal status changes, LOST raises SIGNAL LOSS, and its verdict is evaluated (R49). -/
def Block.reportToOutput (b : Block) (o : OutId) (r : TunerReport) : Block :=
  let x := b.out o
  match x.part with
  | none => b
  | some p =>
    let set := b.setOut o { x with part := some { p with signal := some r.signal } }
    let raised := if r = .lost then set.raise o .signalLoss p.video else set
    raised.evaluate o

/-- Whether the slot of a service part, if it needs one, is LIVE (R61). -/
def Block.keysReady (b : Block) (p : ServicePart) : Bool :=
  p.keyLabel.isNone ||
    (match p.slot with
     | some r => decide ((b.slot r.slot).state = .live)
     | none => false)

/-- The state of a warm context that holds a tuner: READY with signal status LOCKED and a clear service or a LIVE slot, else PREPARING
(R61, R63). -/
def Block.warmStateOf (b : Block) (p : ServicePart) : WarmState :=
  if p.signal = some .locked ∧ b.keysReady p = true then .ready else .preparing

/-- A report to a warm context (R63). -/
def Block.reportToWarm (b : Block) (w : PresId) (r : TunerReport) : Block :=
  let x := b.warm w
  match x.part with
  | none => b
  | some p =>
    let p' := { p with signal := some r.signal }
    let state := match x.state, r with
      | .preparing, .locked => if b.keysReady p' then .ready else .preparing
      | .ready, .lost => .preparing
      | s, _ => s
    b.putWarm w { state := state, part := some p' }

/-- A report to the acquirer (R21). -/
def Block.reportToAcquirer (b : Block) (r : TunerReport) : Block :=
  match b.guide.acquirer.state, r with
  | .tuning, .locked => b.putAcquirer .collecting b.guide.acquirer.tuner
  | .collecting, .lost => b.putAcquirer .tuning b.guide.acquirer.tuner
  | _, _ => b

/-- A report to a holder goes to the block that owns it (R11). -/
def Block.reportTo (b : Block) (who : HolderId) (r : TunerReport) : Block :=
  match who with
  | .ctx (.out o) => b.reportToOutput o r
  | .ctx (.warm w) => b.reportToWarm w r
  | .acquirer => b.reportToAcquirer r

/-- A report to every holder of a tuner, in the order of its holder list (R9). -/
def Block.reportAll (b : Block) (t : TunerId) (r : TunerReport) : Block :=
  (b.tuner t).holders.foldl (fun c h => c.reportTo h.who r) b

/-- A tuner enters LOCKED: timer stopped, part-wide labels installed, LOCKED to every holder, and a signal to the Guide Store on the home
multiplex (R9, R11).  DESIGN CHOICE: R11 does not order the signal against the reports; the holders are told first (log entry 16). -/
def Block.lockTuner (b : Block) (t : TunerId) : Block :=
  let x := b.tuner t
  let set := (b.setTuner t { x with state := .locked, timer := none }).enterLocked t
  let told := set.reportAll t .locked
  if x.mux.isSome ∧ x.mux = b.link.home.map (·.mux) then told.signalGuide else told

/-- The retry period in milliseconds (R10). -/
def retryMs : Nat := 2000

/-- A LOCKED tuner loses lock: RETRY with the retry timer started, part-wide labels removed, LOST to every holder (R9). -/
def Block.unlockTuner (b : Block) (t : TunerId) : Block :=
  let x := b.tuner t
  let set := (b.setTuner t { x with state := .retry, timer := some { kind := .retry, left := retryMs } }).leaveLocked t
  set.reportAll t .lost

/-! ## Key reports, the arbiter and completion (R83, R89 to R94) -/

/-- A slot's report to a warm context that uses it (R63). -/
def Block.slotToWarm (b : Block) (w : PresId) (k : SlotId) : Block :=
  let x := b.warm w
  match x.part with
  | none => b
  | some p =>
    match x.state with
    | .preparing => if p.signal = some .locked ∧ (b.slot k).state = .live then b.putWarm w { x with state := .ready } else b
    | .ready => if (b.slot k).state ≠ .live then b.putWarm w { x with state := .preparing } else b
    | _ => b

/-- A slot state report or an unwrap refusal to one user of the slot (R83, R158). -/
def Block.slotToUser (b : Block) (k : SlotId) (c : CtxId) : Block :=
  match c with
  | .out o => b.evaluate o
  | .warm w => b.slotToWarm w k

/-- A slot state report or an unwrap refusal to every user of the slot (R83).  DESIGN CHOICE: R83 gives the users no order among
themselves; the outputs P0 to P3, R0, R1 are told first, in the order in which R158 evaluates them, and then the warm contexts of P0 to P3
(log entry 16). -/
def Block.tellSlot (b : Block) (k : SlotId) : Block :=
  (b.slot k).users.foldl (fun c u => c.slotToUser k u) b

/-- Whether a slot has a user that is an output in KEYING (R89). -/
def Block.slotIsKeying (b : Block) (k : SlotId) : Bool :=
  (b.slot k).users.any fun u =>
    match u with
    | .out o => decide ((b.out o).delivery = .keying)
    | .warm _ => false

/-- The Key Unit after the arbiter has taken an entry: the engine is busy with it, the slot's refusal mark is none, and an AWAIT slot is
in UNWRAP (R89). -/
def KeyUnit.begin (u : KeyUnit) (e : QueueEntry) : KeyUnit :=
  let x := u.slots.get e.slot
  { (u.setSlot e.slot { x with mark := none, state := if x.state = .await then .unwrap else x.state }).dropEntry e.slot with
    engine := some { slot := e.slot, generation := e.generation, message := e.message } }

/-- The arbiter acts when the engine is idle and the queue is not empty (R89). -/
def Block.arbitrate (b : Block) : Block :=
  match b.keys.engine with
  | some _ => b
  | none =>
    match choose (fun e => b.slotIsKeying e.slot) b.keys.queue with
    | none => b
    | some e =>
      let begun := { b with keys := b.keys.begin e }
      if (b.slot e.slot).state = .await then begun.tellSlot e.slot else begun

/-- A key message reaches a matched slot, and the arbiter acts (R86, R89). -/
def Block.keyMessageFor (b : Block) (m : KeyMessage) (k : SlotId) : Block :=
  ({ b with keys := b.keys.receive k m } : Block).arbitrate

/-- Whether a purchase record allows an unwrap: one for the message's event on the service of a context that uses the slot (R92). -/
def Block.purchaseAllows (b : Block) (x : KeySlot) (m : KeyMessage) : Bool :=
  decide (m.event ≠ 0) && x.users.any fun u =>
    match b.part? u with
    | none => false
    | some p =>
      match findPurchase b.purchases p.service m.event with
      | none => false
      | some r => r.allowsUnwrap

/-- The outcome of an unwrap, decided on the account as it stands at the completion: the service key, or the first refusal that applies
(R92). -/
def Block.unwrapOutcome (b : Block) (x : KeySlot) (m : KeyMessage) : Except RefusalMark ServiceKey :=
  match b.account.key? b.guide.time m.serviceKeyId with
  | none => .error .noServiceKey
  | some key =>
    if !b.account.granted b.guide.time m.accessClass && !b.purchaseAllows x m then .error .notEntitled
    else if key ∉ m.agreesWith then .error .integrityFail
    else .ok key

/-- A slot after a refused unwrap (R93). -/
def KeySlot.refuse (x : KeySlot) (r : RefusalMark) : KeySlot :=
  { x with mark := some r, state := if x.state = .unwrap then .await else x.state }

/-- A slot after a successful unwrap (R94). -/
def KeySlot.apply (x : KeySlot) (key : ServiceKey) (m : KeyMessage) : KeySlot :=
  { x with evenKey := match m.evenKey with | some w => some (Config.unwrap key w) | none => x.evenKey,
           oddKey := match m.oddKey with | some w => some (Config.unwrap key w) | none => x.oddKey,
           lastVersion := some m.version, retain := m.retain, mark := none,
           state := if x.state = .unwrap then .live else x.state }

/-- KEY INTEGRITY is raised on each user of a slot that is an output context (R93).  DESIGN CHOICE: no rule orders the users; they are taken
in the order P0 to P3, R0, R1 (log entry 16). -/
def Block.raiseIntegrity (b : Block) (k : SlotId) : Block :=
  (b.slot k).users.foldl (fun c u =>
    match u with
    | .out o => c.raise o .keyIntegrity (((c.out o).part.bind (·.keyLabel)).getD 0)
    | .warm _ => c) b

/-- The result of an unwrap on the slot it was for (R91 to R94). -/
def Block.completeFor (b : Block) (w : Unwrap) : Block :=
  let x := b.slot w.slot
  if x.generation ≠ w.generation ∨ x.state = .free ∨ x.state = .retained then b
  else
    match b.unwrapOutcome x w.message with
    | .error r =>
      let told := ({ b with keys := b.keys.setSlot w.slot (x.refuse r) } : Block).tellSlot w.slot
      if r = .integrityFail then told.raiseIntegrity w.slot else told
    | .ok key =>
      let set : Block := { b with keys := b.keys.setSlot w.slot (x.apply key w.message) }
      if x.state = .unwrap then set.tellSlot w.slot else set

/-- The completion event: the engine becomes idle, the result is dropped, refused or applied, and the arbiter acts (R91). -/
def Block.completeUnwrap (b : Block) : Block :=
  match b.keys.engine with
  | none => b
  | some w => (({ b with keys := { b.keys with engine := none } } : Block).completeFor w).arbitrate

/-! ## Charging (R131, R133) -/

/-- The charge step of one record (R131). -/
def Block.chargeStep (b : Block) (service eventId : Nat) : Block :=
  match findPurchase b.purchases service eventId with
  | none => b
  | some p =>
    match b.account.debit p.amount with
    | some a =>
      let q := p.pay
      let paid : Block := { b with account := a, purchases := mapPurchase b.purchases service eventId fun _ => q }
      let b1 := if p.amount = 0 then paid else paid.postAccount .debit
      let b2 := b1.postPurchase .charged (some q)
      let b3 := if p.exhausted then b2.postPurchase .resumed (some q) else b2
      let b4 := if q.state ≠ p.state then b3.postPurchase .paidInFull (some q) else b3
      let b5 := if p.amount = 0 then b4 else b4.tellAccount
      if p.exhausted = true ∨ q.state ≠ p.state then b5.tellPurchase service eventId else b5
    | none =>
      if p.exhausted then b
      else
        let q := { p with exhausted := true }
        ((({ b with purchases := mapPurchase b.purchases service eventId fun _ => q } : Block).postPurchase .exhausted
          (some q)).tellPurchase service eventId)

/-- The purse has increased: the charge step runs once for each record that is due, in list order (R133). -/
def Block.purseIncreased (b : Block) : Block :=
  (b.purchases.filter Purchase.chargeIsDue).foldl (fun c p => c.chargeStep p.service p.eventId) b

/-! ## The Purchase Unit's second (R129, R124, R136) -/

/-- Whether some output is LIVE on a record's event under PREVIEW or METERED (R129). -/
def Block.isWatched (b : Block) (p : Purchase) : Bool :=
  outIds.any fun o =>
    let x := b.out o
    x.showsEvent p.service p.eventId && decide (x.delivery = .live)
      && (decide (x.verdict = some (.pass .preview)) || decide (x.verdict = some (.pass .metered)))

/-- One record gains its second: an OFFERED one may spend its preview, a METERING one may owe a charge (R124, R129). -/
def Block.viewSecond (b : Block) (service eventId : Nat) : Block :=
  match findPurchase b.purchases service eventId with
  | none => b
  | some p =>
    let q := p.advance
    let set : Block := { b with purchases := mapPurchase b.purchases service eventId fun _ => q }
    if q.state = .offered then
      if spanLength q.terms.preview ≤ q.clock then (set.postPurchase .previewSpent (some q)).tellPurchase service eventId else set
    else if q.chargeIsDue then set.chargeStep service eventId
    else set

/-- The viewing clocks of one expiry: the records that advance are those that count and are watched as the expiry begins, taken in list
order (R129). -/
def Block.viewingClocks (b : Block) : Block :=
  (b.purchases.filter fun p => p.counts && b.isWatched p).foldl (fun c p => c.viewSecond p.service p.eventId) b

/-- Whether cleanup removes a record: its end is an hour past, and no output shows its event (R136). -/
def Block.cleansUp (b : Block) (p : Purchase) : Bool :=
  b.guide.time.reached (purchaseEnd b.guide p + cleanupDelay) && !outIds.any fun o => (b.out o).showsEvent p.service p.eventId

/-- Cleanup: every record to be removed goes in one change, with one PURCHASE notice (R136). -/
def Block.cleanup (b : Block) : Block :=
  if b.purchases.any b.cleansUp then
    ({ b with purchases := b.purchases.filter fun p => !b.cleansUp p } : Block).postPurchase .removed none
  else b

/-! ## Lapse and day resets -/

/-- Lapse at the Entitlement Store, with what follows a change (R113). -/
def Block.lapse (b : Block) : Block :=
  let a := b.account.lapse b.guide.time
  if a = b.account then b else (({ b with account := a } : Block).postAccount .lapse).tellAccount

/-- The day reset of one profile (R153). -/
def Block.dayReset (b : Block) (day : Int) (p : ProfileId) : Block :=
  let x := b.profile p
  if x.day < day then
    let set := b.setProfile p (x.dayReset day)
    if x.isSpent then set.tellProfile p else set
  else b

/-- The day resets of all profiles, with time set (R153).  DESIGN CHOICE: R153 does not order the profiles; profiles 0 to 7 are taken in turn,
each reset and told before the next one is looked at (log entry 16). -/
def Block.dayResets (b : Block) : Block :=
  match b.guide.time.day? with
  | none => b
  | some d => profileIds.foldl (fun c p => c.dayReset d p) b

/-- One profile's accrual second, if one of its outputs is LIVE (R152). -/
def Block.accrueFor (b : Block) (p : ProfileId) : Block :=
  if (b.boundOutputs p).any fun w => decide ((b.out (presOut w)).delivery = .live) then
    let x := b.profile p
    let set := b.setProfile p x.accrue
    if !x.isSpent && x.accrue.isSpent then set.tellProfile p else set
  else b

/-! ## The device state (R202) -/

/-- STARTING becomes RUNNING when time is set and a map has been applied, and STARTED is posted (R202). -/
def Block.checkRunning (b : Block) : Block :=
  if b.link.device = .starting ∧ b.guide.time.utc.isSome = true ∧ b.guide.mapVersion.isSome = true then
    ({ b with link := { b.link with device := .running } } : Block).post .started (.started b.guide.mapVersion b.guide.time.utc)
  else b

end Sys2Proof.Machine
end

