-- ==== Sys2Proof/Machine/Contexts.lean ====
section
/-! DEFINITION. What contexts do: taking up a service, the recall stack, emptying and exchanging warm contexts, rest levels, stop-at, the
service map at the outputs, the change of time, and the ring (R28, R37, R51 to R76, R170 to R180). -/

namespace Sys2Proof.Machine

/-! ## Taking up a service (R51, R56) -/

/-- The service part of a service record with an audio index, before any tuner or slot (R47, R56). -/
def partOf (s : Service) (audioIndex : Nat) : ServicePart :=
  { service := s.number, version := s.version, muxIndex := s.muxIndex, tuner := none, signal := none, video := s.video,
    audioIndex := audioIndex, audioLabel := ((s.audios[audioIndex]?).map (·.label)).getD 0, captions := s.captions,
    keyLabel := s.keyLabel, slot := none }

/-- The service part of a recall record, its multiplex index from the service table (R56). -/
def partOfRecall (r : RecallRecord) (muxIndex : Nat) : ServicePart :=
  { service := r.service, version := r.version, muxIndex := muxIndex, tuner := none, signal := none, video := r.video,
    audioIndex := r.audioIndex, audioLabel := r.audioLabel, captions := r.captions, keyLabel := r.keyLabel, slot := none }

/-- The class of a context as a holder (R3). -/
def holderClass (c : CtxId) : HolderClass :=
  match c with
  | .out _ => .primary
  | .warm _ => .warm

/-- A context takes up a service part: tuner, listing, slot, release, status.  None when the tuner is refused, with everything as it was
(R51). -/
def Block.takeUp (b : Block) (c : CtxId) (new : ServicePart) : Option Block :=
  let old := b.part? c
  let oldTuner := old.bind (·.tuner)
  match b.allocate (.ctx c) (holderClass c) (b.guide.mux? new.muxIndex) new.listing with
  | none => none
  | some (granted, t, state) =>
    let listed := if oldTuner = some t then granted.relist t c new.listing else granted
    let got := listed.keys.follow c (old.bind (·.slot)) new.tag?
    let slotted : Block := { listed with keys := got.1 }
    let released := if oldTuner = some t then slotted else slotted.releaseRef c oldTuner
    some (released.setPart c (some { new with tuner := some t, signal := some (grantSignal state), slot := got.2 }))

/-- A context gives up its tuner and its slot (R69, R71, R73, R173). -/
def Block.giveUp (b : Block) (c : CtxId) : Block :=
  let old := b.part? c
  (b.releaseRef c (old.bind (·.tuner))).leaveSlot c (old.bind (·.slot))

/-! ## The recall stack (R58 to R60) -/

/-- The recall record made from a service part (R59). -/
def Block.recallOf (b : Block) (p : ServicePart) : RecallRecord :=
  { service := p.service, version := p.version, video := p.video, audioIndex := p.audioIndex, audioLabel := p.audioLabel,
    captions := p.captions, keyLabel := p.keyLabel, lastKeyVersion := p.slot.bind fun r => (b.slot r.slot).lastVersion }

/-- A push: an older record of the service is removed, the new one goes to rank 0, and what is pushed below rank 5 is dropped (R59). -/
def pushRecall (l : List RecallRecord) (r : RecallRecord) : List RecallRecord :=
  (r :: l.filter fun x => decide (x.service ≠ r.service)).take 6

/-- A service part is pushed into a recall stack; an empty one pushes nothing (R57, R59). -/
def Block.push (b : Block) (w : PresId) (r : Option RecallRecord) : Block :=
  match r with
  | some x => b.setRecalls w (pushRecall (b.recalls w) x)
  | none => b

/-- The record that is a hit for a service: its service map version equals the applied one (R54, R60). -/
def Block.recallHit (b : Block) (w : PresId) (service : Nat) : Option RecallRecord :=
  (b.recalls w).find? fun r => decide (r.service = service) && decide (some r.version = b.guide.mapVersion)

/-- The service part that the recall path or, without a hit, the cold path builds (R54, R56). -/
def Block.pathPart (b : Block) (w : PresId) (s : Service) : ServicePart :=
  match b.recallHit w s.number with
  | some r => partOfRecall r s.muxIndex
  | none => partOf s 0

/-! ## Rest (R57, R70, R71) -/

/-- A resting output stops resting (R57, R72). -/
def Output.stopResting (x : Output) : Output := { x with restLevel := .awake, tolerance := none, hold := false, restSeconds := 0 }

/-- An output enters REST LIGHT with a tolerance and a hold flag: rest seconds 0, verdict none (R68, R70, R157). -/
def Block.restLight (b : Block) (o : OutId) (tolerance : Span) (hold : Bool) : Block :=
  (b.setOut o { b.out o with
    restLevel := .light, tolerance := some tolerance, hold := hold, restSeconds := 0, verdict := none, delivery := .restLight
    }).postOutput o

/-- An output enters REST DEEP: tuner and slot given up, override removed, rest seconds 0 (R71). -/
def Block.restDeep (b : Block) (o : OutId) : Block :=
  let freed := b.giveUp (.out o)
  let x := freed.out o
  (freed.setOut o { x with
    part := x.part.map ServicePart.untuned, override := none, restSeconds := 0, restLevel := .deep, verdict := none,
    delivery := .restDeep }).postOutput o

/-- A stop-at that is due is cleared, and acts by the output's delivery state (R68). -/
def Block.stopAtDue (b : Block) (o : OutId) : Block :=
  let x := b.out o
  match x.stopAt with
  | none => b
  | some t =>
    if b.guide.time.reached t then
      let cleared := b.setOut o { x with stopAt := none }
      match x.delivery with
      | .tuning | .keying | .live | .held _ => cleared.restLight o Span.zero false
      | .restLight => b.setOut o { x with stopAt := none, hold := false }
      | .restDeep | .contained | .off => cleared
    else b

/-- One rest second of an output in REST LIGHT, which deepens when its hold flag is clear and the deepen span has passed (R70). -/
def Block.restSecond (b : Block) (o : OutId) : Block :=
  let x := b.out o
  if x.restLevel = .light then
    let n := min (x.restSeconds + 1) 65535
    let counted := b.setOut o { x with restSeconds := n }
    if x.hold = false ∧ spanLength b.engines.deepen ≤ n then counted.restDeep o else counted
  else b

/-- One second of the silence count of a LIVE output (R76). -/
def Block.silenceSecond (b : Block) (o : OutId) : Block :=
  let x := b.out o
  if x.delivery = .live ∧ x.silence < 2 then
    let counted := b.setOut o { x with silence := x.silence + 1 }
    if x.silence + 1 = 2 then counted.raise o .streamSilence ((x.part.map (·.video)).getD 0) else counted
  else b

/-! ## Warm contexts (R55, R62) -/

/-- A warm context is emptied, its tuner and slot given up (R62). -/
def Block.emptyWarm (b : Block) (w : PresId) : Block := (b.giveUp (.warm w)).putWarm w Warm.emptied

/-- A warm context takes up a service; its state follows from the grant, and a refusal empties it (R62, R63). -/
def Block.warmUp (b : Block) (w : PresId) (new : ServicePart) : Block × Bool :=
  match b.takeUp (.warm w) new with
  | none => (b.emptyWarm w, false)
  | some c =>
    match (c.warm w).part with
    | none => (c, true)
    | some p =>
      -- the part stood in the warm context already, so the old one is put back for the notice to see the change
      ((c.setWarm w (b.warm w)).putWarm w { state := c.warmStateOf p, part := some p }, true)

/-- On every tuner, the holder entries of two contexts are exchanged, each entry keeping its place and taking its new holder's class
(R55 step 2). -/
def swapHolders (a c : CtxId) (x : Tuner) : Tuner :=
  { x with holders := x.holders.map fun h =>
      match h.who with
      | .ctx y => if y = a ∨ y = c then { who := .ctx (ctxSwap a c y), cls := holderClass (ctxSwap a c y) } else h
      | .acquirer => h }

/-- An exchange of an output with its warm context: service parts, holder entries, listings, slot users, and the warm context's new state
(R55).  DESIGN CHOICE: where the output's former service is not in the table, R55 does not order the WARM notice of EMPTY against the GUIDE
notice of an acquirer that takes the tuner freed; the tuner is released first and the WARM notice comes after (log entry 16). -/
def Block.exchange (b : Block) (w : PresId) : Block :=
  let o := presOut w
  let active := (b.out o).part
  let target := (b.warm w).part
  let swapped : Block :=
    { (b.swapListings (.out o) (.warm w)) with
      pool := { b.pool with tuners := b.pool.tuners.map (swapHolders (.out o) (.warm w)) },
      keys := b.keys.exchange (.out o) (.warm w) }
  let parted := swapped.setOut o { swapped.out o with part := target }
  match active with
  | none => parted.putWarm w Warm.emptied
  | some p =>
    if p.tuner = none then parted.putWarm w Warm.emptied
    else
      let kept := parted.setWarm w { parted.warm w with part := some p }
      if (b.guide.service? p.service).isNone then
        -- the tuner and slot now stand in the warm context's name, and are given up there
        let emptied := kept.giveUp (.warm w)
        (emptied.setWarm w (b.warm w)).putWarm w Warm.emptied
      else (kept.setWarm w (b.warm w)).putWarm w { state := kept.warmStateOf p, part := some p }

/-! ## The service map at the outputs (R28, R73, R74) -/

/-- The service part of a context under a new service record: the audio index is kept if the record has one at it, else 0 (R28). -/
def remapped (s : Service) (p : ServicePart) : ServicePart :=
  let index := if (s.audios[p.audioIndex]?).isSome then p.audioIndex else 0
  { partOf s index with tuner := p.tuner, signal := p.signal, slot := p.slot }

/-- A context puts its service part and, for a warm context, the state that follows from it (R63, R64). -/
def Block.putPart (b : Block) (c : CtxId) (p : ServicePart) : Block :=
  match c with
  | .out _ => b.setPart c (some p)
  | .warm w => b.putWarm w { state := if p.tuner = none then (b.warm w).state else b.warmStateOf p, part := some p }

/-- A context keeps its tuner under a new map: labels relisted where any differs, the key slot following a changed tag (R28, R74). -/
def Block.remapInPlace (b : Block) (c : CtxId) (t : TunerId) (old new : ServicePart) : Block :=
  let listed := if new.listing = old.listing then b else b.relist t c new.listing
  let held := old.slot.bind fun r => (b.slot r.slot).tag
  let got := if held = new.tag? then (listed.keys, old.slot) else listed.keys.follow c old.slot new.tag?
  ({ listed with keys := got.1 } : Block).putPart c { new with slot := got.2 }

/-- A context whose service has moved takes it up again, or is left without tuner and slot when refused: a warm context goes COLD
(R73). -/
def Block.moveService (b : Block) (c : CtxId) (new : ServicePart) : Block :=
  match b.takeUp c new with
  | some d =>
    match c, (d.part? c) with
    | .warm w, some p => (d.setWarm w (b.warm w)).putWarm w { state := d.warmStateOf p, part := some p }
    | _, _ => d
  | none =>
    let freed := b.giveUp c
    match c with
    | .out _ => freed.setPart c (some new.untuned)
    | .warm w => freed.putWarm w { state := .cold, part := some new.untuned }

/-- What an applied map does to one context that has a service (R28). -/
def Block.remap (b : Block) (c : CtxId) : Block :=
  match b.part? c with
  | none => b
  | some p =>
    match b.guide.service? p.service with
    | none =>
      match c with
      | .out _ => b
      | .warm w => b.emptyWarm w
    | some s =>
      let new := remapped s p
      match p.tuner with
      | none => b.putPart c new
      | some t => if (b.tuner t).mux = b.guide.mux? s.muxIndex then b.remapInPlace c t p new else b.moveService c new

/-- The Output Engines are told that a map has been applied: every context in order, then every output's current event and verdict (R28,
R38, R73, R158).  DESIGN CHOICE: R73 orders the take-ups of moved contexts alone, and no rule says whether an absent service's warm context is emptied, or
an unmoved context's slot follows its tag (R74), before, between or after them; each context is done whole in its turn, P0 to P3, R0, R1, then the warm
contexts of P0 to P3, by its state at that turn (log entry 40). -/
def Block.mapApplied (b : Block) : Block :=
  (CtxId.all.foldl Block.remap b).selectAll outIds

/-! ## The change of time (R37) -/

/-- The Output Engines on a change of time: current events, verdicts and due stop-ats (R38, R68, R158).  DESIGN CHOICE: no rule orders the
stop-ats that fall due against the selections and evaluations, which can create an offer; every output is selected for and evaluated first, in
the order P0 to P3, R0, R1, and then the stop-ats act in the same order (log entry 16). -/
def Block.outputsOnTime (b : Block) : Block :=
  outIds.foldl Block.stopAtDue (b.selectAll outIds)

/-- The blocks that are told that time has changed, in the order R37 names them. -/
def Block.tellTime (b : Block) : Block := b.outputsOnTime.lapse.cleanup.dayResets

/-- A TIME section that passes: the time base is set and handed on by what differs (R34, R37). -/
def Block.takeTimeSection (b : Block) (utc : Nat) (offset : Int) (change : Option OffsetChange) : Block :=
  let old := b.guide.time
  let new := takeTime utc offset change
  let set : Block := { b with guide := { b.guide with time := new } }
  let told := if old.utc.isNone then set.checkRunning else set
  let noted := if new = old then told else told.postTime
  if new.utc = old.utc ∧ new.offset = old.offset then noted else noted.tellTime

/-! ## The ring (R174 to R180) -/

/-- The more restrictive of two copy controls (R174). -/
def stricter (a b : CopyControl) : CopyControl := if copyCode a < copyCode b then b else a

/-- Half `h` of a record output's record. -/
def Ring.half (r : Ring) (h : HalfId) : Half := r.halves.get h

/-- The record with half `h` replaced. -/
def Ring.setHalf (r : Ring) (h : HalfId) (x : Half) : Ring := { r with halves := vset r.halves h x }

/-- The other half. -/
def otherHalf (h : HalfId) : HalfId := if h = 0 then 1 else 0

/-- A half taken to fill (R175). -/
def Half.begun : Half := { state := .filling, count := 0, copy := none, first := none, last := none }

/-- A writer that is not writing takes a half to fill, or waits (R175). -/
def Ring.takeHalf (r : Ring) : Ring :=
  let free := fun h => decide ((r.half h).state = .free)
  let pick : Option HalfId :=
    if free 0 && free 1 then some (match r.lastFilled with | some h => otherHalf h | none => 0)
    else if free 0 then some 0
    else if free 1 then some 1
    else none
  match pick with
  | some h => { r.setHalf h Half.begun with writer := .writing h }
  | none => { r with writer := .waiting none false }

/-- The FILLING half becomes FULL and is the last half filled; the writer moves on to the other half or waits on it (R175). -/
def Ring.fillDone (r : Ring) (h : HalfId) : Ring :=
  let full := { r.setHalf h { r.half h with state := .full } with lastFilled := some h }
  let other := otherHalf h
  if (r.half other).state = .free then { full.setHalf other Half.begun with writer := .writing other }
  else { full with writer := .waiting (some other) false }

/-- A half after one more cell (R174). -/
def Half.store (x : Half) (stamp : Nat) (copy : CopyControl) : Half :=
  { x with count := x.count + 1, first := if x.count = 0 then some stamp else x.first, last := some stamp,
           copy := some (match x.copy with | some c => stricter c copy | none => copy) }

/-- A passed cell of a record output reaches its writer: stored with its stamp, or discarded in a wait whose first cell raises RING OVERRUN
(R174 to R176). -/
def Block.storeCell (b : Block) (r : RecId) (c : Cell) (copy : CopyControl) : Block :=
  let x := b.ring r
  match x.writer, x.field with
  | .writing h, some f =>
    let half := (x.half h).store b.ringWriter.stamp copy
    let memory := b.ringWriter.memory.writeBytes (unitAddress f h (x.half h).count) (unitBytes b.ringWriter.stamp c)
    let stored : Block := { b with ringWriter := { b.ringWriter with memory := memory } }
    if half.count = f.capacity then (stored.setRing r ((x.setHalf h half).fillDone h)).postRing r
    else stored.setRing r (x.setHalf h half)
  | .waiting on false, _ => (b.setRing r { x with writer := .waiting on true }).raise (recOut r) .ringOverrun c.label
  | _, _ => b

/-- An item goes out on a record stream port. -/
def Block.sendRecord (b : Block) (r : RecId) (x : RecordItem) : Block :=
  { b with ports := { b.ports with record := vset b.ports.record r (b.ports.record.get r ++ [x]) } }

/-- A drain in flight is aborted with its abort mark (R180). -/
def Block.abortDrain (b : Block) (r : RecId) : Block :=
  match (b.ring r).drain with
  | some d => b.sendRecord r (.abortMark r d.half d.sent)
  | none => b

/-- A drain has completed: its half is FREE, and a writer that waits on it goes on (R176, R179). -/
def Ring.drainDone (r : Ring) (h : HalfId) : Ring :=
  let freed := { r.setHalf h Half.freed with drain := none }
  match r.writer with
  | .waiting on _ =>
    if on = none ∨ on = some h then { freed.setHalf h Half.begun with writer := .writing h } else freed
  | _ => freed

/-- One stored unit of a draining half goes out, read from the buffer memory (R178). -/
def Block.sendUnit (b : Block) (r : RecId) (f : FieldSpec) (d : Drain) : Except Nat Block :=
  match b.ringWriter.memory.readBytes (unitAddress f d.half d.sent) unitLength with
  | .error a => .error a
  | .ok bytes => .ok ((b.setRing r { b.ring r with drain := some { d with sent := d.sent + 1 } }).sendRecord r (.unit bytes))

/-- The next `n` units of a draining half go out. -/
def Block.sendUnits (b : Block) (r : RecId) (f : FieldSpec) (h : HalfId) : Nat → Nat → Except Nat Block
  | _, 0 => .ok b
  | sent, n + 1 =>
    match b.sendUnit r f { half := h, sent := sent } with
    | .error a => .error a
    | .ok c => c.sendUnits r f h (sent + 1) n

end Sys2Proof.Machine
end

