-- ==== Sys2Proof/Machine/OutputRequests.lean ====
section
/-! DEFINITION. The commands of the outputs: OUTPUT STATUS, TUNE, WARM, AUDIO, BIND, STOP AT, REST, WAKE and CLOSE (R53 to R77). -/

namespace Sys2Proof.Machine

/-! ## OUTPUT STATUS (R77) -/

/-- What OUTPUT STATUS gives of an output (R77). -/
def Block.outputView (b : Block) (o : OutId) : OutputView :=
  let x := b.out o
  { profile := (outPres? o).map b.boundProfile, current := x.current, verdict := x.verdict, delivery := x.delivery,
    tolerance := x.tolerance, hold := x.hold, restSeconds := x.restSeconds, stopAt := x.stopAt, scope := x.override.map (·.scope),
    silence := x.silence, status := x.fault.status, pointer := x.fault.pointer, part := x.part, warm := (outPres? o).map b.warm,
    recalls := ((outPres? o).map b.recalls).getD [] }

/-- OUTPUT STATUS (R77). -/
def execOutputStatus (h : Head) (output : Nat) (s : State) : Host.Outcome State Fault Refusal :=
  answerQuery h (fun b =>
    match outId? output with
    | none => .refused .badArgument
    | some o => .data (.outputStatus o (b.outputView o))) s

/-! ## WAKE (R72) -/

/-- An output stops resting, and its verdict is evaluated (R72). -/
def Block.wakeLight (b : Block) (o : OutId) : Block := (b.setOut o (b.out o).stopResting).evaluate o

/-- An output that has taken up its kept service stops resting; its current event is selected and its verdict evaluated (R72). -/
def Block.wakeDeep (b : Block) (o : OutId) : Block := (b.setOut o (b.out o).stopResting).selectAndEvaluate o

/-- WAKE of a presentation output (R72). -/
def Block.wake (b : Block) (w : PresId) : Block × ReplyBody :=
  let o := presOut w
  match (b.out o).restLevel with
  | .awake => (b, .refused .wrongState)
  | .light => (b.wakeLight o, .ack)
  | .deep =>
    if b.running = false then (b, .refused .notReady)
    else
      match (b.out o).part.bind fun p => b.guide.service? p.service with
      | none => (b, .refused .unknownService)
      | some s =>
        match b.takeUp (.out o) (b.pathPart w s) with
        | none => (b, .refused .noTuner)
        | some c => (c.wakeDeep o, .ack)

/-- WAKE (R72). -/
def execWake (h : Head) (output : Nat) (s : State) : Host.Outcome State Fault Refusal :=
  answer h (fun b =>
    match presId? output with
    | none => (b, .refused .badArgument)
    | some w => b.wake w) s

/-! ## TUNE (R53 to R57) -/

/-- Whether a service number lies in 1 to 9999. -/
def serviceNumberGood (n : Nat) : Bool := decide (1 ≤ n) && decide (n ≤ 9999)

/-- The effects that follow every path of TUNE: the push, the end of the override and of a rest, the current event, the verdict and the
notice (R57). -/
def Block.finishTune (b : Block) (w : PresId) (left : Option RecallRecord) : Block :=
  let o := presOut w
  let pushed := b.push w left
  let x := pushed.out o
  ((pushed.setOut o { x.stopResting with override := none }).selectCurrent o).evaluateWith o true

/-- The recall or the cold path of TUNE with a service part (R51, R54, R57). -/
def Block.tuneTo (b : Block) (w : PresId) (new : ServicePart) (left : Option RecallRecord) : Block × ReplyBody :=
  match b.takeUp (.out (presOut w)) new with
  | none => (b, .refused .noTuner)
  | some c => (c.finishTune w left, .ack)

/-- Whether the warm context holds a service in PREPARING or READY (R54, R62). -/
def Warm.prepares (x : Warm) (service : Nat) : Bool :=
  decide (x.part.map (·.service) = some service) && (decide (x.state = .preparing) || decide (x.state = .ready))

/-- TUNE of a presentation output to a service of the table (R53, R54).  A TUNE to the output's own service, taken because the output
holds no tuner, leaves no service and pushes none. -/
def Block.tune (b : Block) (w : PresId) (s : Service) : Block × ReplyBody :=
  let x := b.out (presOut w)
  if x.part.map (·.service) = some s.number then
    if x.restLevel ≠ .awake then b.wake w
    else if (x.part.bind (·.tuner)).isSome then (b, .ack)
    else b.tuneTo w (partOf s 0) none
  else if (b.warm w).prepares s.number then ((b.exchange w).finishTune w (x.part.map b.recallOf), .ack)
  else b.tuneTo w (b.pathPart w s) (x.part.map b.recallOf)

/-- TUNE (R53). -/
def execTune (h : Head) (output service : Nat) (s : State) : Host.Outcome State Fault Refusal :=
  answer h (fun b =>
    if b.running = false then (b, .refused .notReady)
    else
      match presId? output with
      | none => (b, .refused .badArgument)
      | some w =>
        if serviceNumberGood service = false then (b, .refused .badArgument)
        else
          match b.guide.service? service with
          | none => (b, .refused .unknownService)
          | some x => b.tune w x) s

/-! ## WARM (R62) -/

/-- WARM of a presentation output to a service of the table (R62). -/
def Block.prepareWarm (b : Block) (w : PresId) (s : Service) : Block × ReplyBody :=
  if (b.warm w).prepares s.number then (b, .ack)
  else
    let r := b.warmUp w (partOf s 0)
    (r.1, if r.2 then .ack else .refused .noTuner)

/-- WARM with service 0: the warm context is emptied (R62). -/
def Block.dropWarm (b : Block) (w : PresId) : Block := if (b.warm w).state = .empty then b else b.emptyWarm w

/-- WARM (R62). -/
def execWarm (h : Head) (output service : Nat) (s : State) : Host.Outcome State Fault Refusal :=
  answer h (fun b =>
    if b.running = false then (b, .refused .notReady)
    else
      match presId? output with
      | none => (b, .refused .badArgument)
      | some w =>
        if 9999 < service ∨ (service ≠ 0 ∧ (b.out (presOut w)).part.map (·.service) = some service) then (b, .refused .badArgument)
        else if service = 0 then (b.dropWarm w, .ack)
        else
          match b.guide.service? service with
          | none => (b, .refused .unknownService)
          | some x => b.prepareWarm w x) s

/-! ## AUDIO, BIND, STOP AT (R65 to R68) -/

/-- An output's service part takes another audio label, and its listing is replaced where it holds a tuner (R65). -/
def Block.takeAudio (b : Block) (o : OutId) (p : ServicePart) (index label : Nat) : Block :=
  let new := { p with audioIndex := index, audioLabel := label }
  let set := b.setPart (.out o) (some new)
  match p.tuner with
  | none => set
  | some t => set.relist t (.out o) new.listing

/-- AUDIO (R65). -/
def execAudio (h : Head) (output index : Nat) (s : State) : Host.Outcome State Fault Refusal :=
  answer h (fun b =>
    match outId? output with
    | none => (b, .refused .badArgument)
    | some o =>
      if 3 < index then (b, .refused .badArgument)
      else if (b.out o).delivery = .off ∨ (b.out o).delivery = .restDeep then (b, .refused .wrongState)
      else
        match (b.out o).part with
        | none => (b, .refused .wrongState)
        | some p =>
          match b.guide.service? p.service with
          | none => (b, .refused .unknownService)
          | some x =>
            match x.audios[index]? with
            | none => (b, .refused .badArgument)
            | some a => if p.audioIndex = index then (b, .ack) else (b.takeAudio o p index a.label, .ack)) s

/-- A presentation output is bound to another profile, and its verdict evaluated (R66). -/
def Block.bindTo (b : Block) (w : PresId) (p : ProfileId) : Block :=
  ({ b with engines := { b.engines with bound := vset b.engines.bound w p } } : Block).evaluate (presOut w)

/-- BIND (R66). -/
def execBind (h : Head) (output profile : Nat) (s : State) : Host.Outcome State Fault Refusal :=
  answer h (fun b =>
    match presId? output, profileId? profile with
    | some w, some p => if b.boundProfile w = p then (b, .ack) else (b.bindTo w p, .ack)
    | _, _ => (b, .refused .badArgument)) s

/-- STOP AT (R67). -/
def execStopAt (h : Head) (output : Nat) (time : Option Nat) (s : State) : Host.Outcome State Fault Refusal :=
  answer h (fun b =>
    match presId? output with
    | none => (b, .refused .badArgument)
    | some w =>
      let o := presOut w
      if (b.out o).delivery = .off then (b, .refused .wrongState)
      else ((b.setOut o { b.out o with stopAt := time }).stopAtDue o, .ack)) s

/-! ## REST and CLOSE (R69 to R71) -/

/-- The output takes the tolerance and the hold flag of a REST (R70). -/
def Block.restFields (b : Block) (o : OutId) (tolerance : Span) (hold : Bool) : Block :=
  b.setOut o { b.out o with tolerance := some tolerance, hold := hold }

/-- REST of a presentation output that is neither OFF nor CONTAINED (R70). -/
def Block.rest (b : Block) (o : OutId) (tolerance : Span) (hold : Bool) : Block :=
  let deep := decide (spanLength b.engines.deepThreshold ≤ spanLength tolerance)
  match (b.out o).restLevel with
  | .deep => b.restFields o tolerance hold
  | .light =>
    if deep then (b.restFields o tolerance hold).restDeep o
    else
      let set := b.restFields o tolerance hold
      set.setOut o { set.out o with restSeconds := 0 }
  | .awake => if deep then (b.restFields o tolerance hold).restDeep o else b.restLight o tolerance hold

/-- REST (R70). -/
def execRest (h : Head) (output : Nat) (tolerance : Span) (hold : Bool) (s : State) : Host.Outcome State Fault Refusal :=
  answer h (fun b =>
    match presId? output with
    | none => (b, .refused .badArgument)
    | some w =>
      let o := presOut w
      if (b.out o).delivery = .off ∨ (b.out o).delivery = .contained then (b, .refused .wrongState)
      else (b.rest o tolerance hold, .ack)) s

/-- An output turned off: everything of R69 steps 3 to 5; the fault block is kept. -/
def Output.closed (x : Output) : Output :=
  { Output.afterReset with fault := x.fault }

/-- CLOSE of an output that is on and not CONTAINED (R69). -/
def Block.close (b : Block) (w : PresId) : Block :=
  let o := presOut w
  let freed := (b.push w ((b.out o).part.map b.recallOf)).giveUp (.out o)
  (freed.setOut o (freed.out o).closed).postOutput o

/-- CLOSE (R69). -/
def execClose (h : Head) (output : Nat) (s : State) : Host.Outcome State Fault Refusal :=
  answer h (fun b =>
    match presId? output with
    | none => (b, .refused .badArgument)
    | some w =>
      if (b.out (presOut w)).delivery = .contained then (b, .refused .wrongState)
      else if (b.out (presOut w)).delivery = .off then (b, .ack)
      else (b.close w, .ack)) s

end Sys2Proof.Machine
end

