-- ==== Sys2Proof/Machine/GuideRequests.lean ====
section
/-! DEFINITION. The commands of the guide: GUIDE STATUS, SEEK, MULTIPLEXES, SERVICES and EVENT, the guide cell, and the Guide Store's
seconds clock (R23 to R46). -/

namespace Sys2Proof.Machine

/-! ## The queries (R40 to R46) -/

/-- GUIDE STATUS (R40). -/
def execGuideStatus (h : Head) (s : State) : Host.Outcome State Fault Refusal :=
  answerQuery h (fun b =>
    let g := b.guide
    .data (.guideStatus g.acquirer g.mapVersion (g.pendingMap.map fun m => (m.version, m.last, m.parts.length)) g.muxes.length
      g.services.length g.pool.length g.time g.time.day? g.time.minute?)) s

/-- The answer of a SEEK whose checks pass (R44 to R46). -/
def Guide.seek (g : Guide) (q : SeekQuery) : SeekOutcome :=
  seekWalk (seekMatches q) (walkList q (g.events q.service)) q.limit 0

/-- SEEK (R43). -/
def execSeek (h : Head) (q : SeekQuery) (s : State) : Host.Outcome State Fault Refusal :=
  answerQuery h (fun b =>
    if b.running = false then .refused .notReady
    else if seekArgumentsGood q = false then .refused .badArgument
    else if (b.guide.service? q.service).isNone then .refused .unknownService
    else .data (.seek (b.guide.seek q))) s

/-- MULTIPLEXES (R41). -/
def execMultiplexes (h : Head) (s : State) : Host.Outcome State Fault Refusal :=
  answerQuery h (fun b => if b.running = false then .refused .notReady else .data (.multiplexes b.guide.muxes)) s

/-- What SERVICES gives from a first service number on: how many records fit in one reply is a free value (R41; log entry 8). -/
def Guide.servicesFrom (g : Guide) (first : Nat) : Data :=
  let l := g.services.filter fun x => decide (first ≤ x.number)
  let cut := cutAfter l (Config.serviceRoom l)
  .services cut.1 cut.2

/-- SERVICES (R41).  DESIGN CHOICE: R41 gives NOT READY and BAD ARGUMENT without an order between them; NOT READY comes first, as in R42 and
R43 (log entry 35). -/
def execServices (h : Head) (first : Nat) (s : State) : Host.Outcome State Fault Refusal :=
  answerQuery h (fun b =>
    if b.running = false then .refused .notReady
    else if serviceNumberGood first = false then .refused .badArgument
    else .data (b.guide.servicesFrom first)) s

/-- The event that a service and an event id name, 0 for the event on air (R42, R125). -/
def Guide.named? (g : Guide) (service eventId : Nat) : Option Event :=
  if eventId = 0 then g.onAir? service else g.event? service eventId

/-- EVENT (R42). -/
def execEvent (h : Head) (service event : Nat) (s : State) : Host.Outcome State Fault Refusal :=
  answerQuery h (fun b =>
    if b.running = false then .refused .notReady
    else if serviceNumberGood service = false then .refused .badArgument
    else if (b.guide.service? service).isNone then .refused .unknownService
    else
      match b.guide.named? service event with
      | none => .refused .unknownEvent
      | some e => .data (.event e)) s

/-! ## The guide cell (R23 to R37) -/

/-- The longest section that is assembled, in bytes (R23). -/
def sectionTop : Nat := 4096

/-- A partial section with one more cell's payload (R23). -/
def PartialSection.add (p : PartialSection) (c : Cell) : PartialSection :=
  { images := p.images ++ [c.image], collected := p.collected + c.payloadLength,
    total := match p.total with | some n => some n | none => c.statedTotal }

/-- What a cell makes of a partial section that it begins or continues: the partial section left, and the section completed (R23). -/
def PartialSection.settle (p : PartialSection) (c : Cell) : Option PartialSection × Option GuideSection :=
  match p.total with
  | none => (some p, none)
  | some n =>
    if sectionTop < n then (none, none)
    else if n ≤ p.collected then (none, c.guideSection)
    else (some p, none)

/-- A guide cell at an assembly: the assembly left, and the section completed (R23). -/
def Assembly.take (a : Assembly) (c : Cell) : Assembly × Option GuideSection :=
  let next : Option PartialSection :=
    if c.scramble ≠ .clear then none
    else if c.start then some (PartialSection.add { images := [], collected := 0, total := none } c)
    else
      match a.partialSection, a.last with
      | some p, some n => if c.count = (n + 1) % 16 then some (p.add c) else none
      | _, _ => none
  match next with
  | none => ({ partialSection := none, last := some c.count }, none)
  | some p => ({ partialSection := (p.settle c).1, last := some c.count }, (p.settle c).2)

/-- A complete map is applied, with what follows at the other blocks (R27). -/
def Block.applyMap (b : Block) (m : PendingMap) : Block :=
  ((({ b with guide := b.guide.applyMap m } : Block).postGuide).checkRunning).mapApplied

/-- A SERVICE MAP section (R25). -/
def Block.takeMapSection (b : Block) (version last : Nat) (p : MapSection) : Block :=
  if b.guide.mapVersion = some version then b
  else
    let m := gather b.guide.pendingMap version last p
    if m.complete then b.applyMap m else { b with guide := { b.guide with pendingMap := some m } }

/-- Whether an event of the pool is some output's current event (R32). -/
def Block.isCurrent (b : Block) (x : PoolEvent) : Bool := outIds.any fun o => (b.out o).showsEvent x.service x.event.eventId

/-- The outputs of a service, in order (R33). -/
def Block.outputsOf (b : Block) (service : Nat) : List OutId :=
  outIds.filter fun o => decide ((b.out o).part.map (·.service) = some service)

/-- An EVENT BLOCK section: its entries one by one, the GUIDE notice on a change of the pool, and the outputs of its service told on a
change of that service (R30, R33).  DESIGN CHOICE: R33 does not order the GUIDE notice against the selections and evaluations of the block's
outputs and their OUTPUT notices; the GUIDE notice is posted first (log entry 16). -/
def Block.takeEventBlock (b : Block) (version service : Nat) (entries : List EventEntry) : Block :=
  if (b.guide.service? service).isNone then b
  else
    let w := entries.foldl (takeEntry b.guide.time b.isCurrent service version) { pool := b.guide.pool, changed := [] }
    let set : Block := { b with guide := { b.guide with pool := w.pool } }
    let noted := if w.changed.isEmpty then set else set.postGuide
    if service ∈ w.changed then noted.selectAll (noted.outputsOf service) else noted

/-- A complete section is discarded or goes by its kind (R24). -/
def Block.takeSection (b : Block) (x : GuideSection) : Block :=
  if x.checkAgrees = false then b
  else
    match x.body with
    | .serviceMap version number last muxes services =>
      if last < number then b else b.takeMapSection version last { number := number, muxes := muxes, services := services }
    | .eventBlock version number last service entries => if last < number then b else b.takeEventBlock version service entries
    | .time utc offset change =>
      if offsetInRange offset && (change.all fun c => offsetInRange c.offset) then b.takeTimeSection utc offset change else b
    | .other => b

/-- A guide cell of an input: its assembly, and the section it completes, if any (R23, R24). -/
def Block.takeGuideCell (b : Block) (i : TunerId) (c : Cell) : Block :=
  let r := (b.guide.assemblies.get i).take c
  let set : Block := { b with guide := { b.guide with assemblies := vset b.guide.assemblies i r.1 } }
  match r.2 with
  | none => set
  | some x => set.takeSection x

/-- GUIDE CELL (R23). -/
def execGuideCell (i : TunerId) (c : Cell) (s : State) : Host.Outcome State Fault Refusal :=
  happen (fun b => b.takeCopy (.guide i c.label) (fun x => decide (x.cell = c)) fun _ d => d.takeGuideCell i c) s

/-! ## The Guide Store's seconds clock (R35) -/

/-- The Guide Store's second: the time base advances, and an offset change that comes into force posts a TIME notice (R35). -/
def Block.guideSecond (b : Block) : Block :=
  let new := b.guide.time.tick
  let set : Block := { b with guide := { b.guide with time := new } }
  if b.guide.time.change = new.change then set else set.postTime

/-- GUIDE SECONDS EXPIRY (R35). -/
def execGuideSecondsExpiry (s : State) : Host.Outcome State Fault Refusal := happen Block.guideSecond s

end Sys2Proof.Machine
end

