-- ==== Sys2Proof/Machine/AccountRequests.lean ====
section
/-! DEFINITION. BUY, the entitlement message cell, and the seconds clocks of the Entitlement Store and the Purchase Unit (R101 to R115, R125 to
R137). -/

namespace Sys2Proof.Machine

/-! ## BUY (R125 to R128) -/

/-- The record on which a BUY of an event would work, none where its price mode is neither FLAT nor METERED (R125, R126). -/
def Block.purchaseFor (b : Block) (w : PresId) (service : Nat) (e : Event) : Option Purchase :=
  (termsOf e).map fun t => boughtRecord b.purchases service e.eventId t (b.boundProfile w)

/-- Whether a record already stands for a purchase (R125). -/
def Purchase.isBought (p : Purchase) : Bool := decide (p.state ≠ .offered)

/-- The checks of BUY from the price mode on, for the record it would work on (R125). -/
def Block.buyRefusal (b : Block) (w : PresId) (service eventId : Nat) (p : Purchase) : Option RefusalCode :=
  let old := findPurchase b.purchases service eventId
  let profile := (b.profile (b.boundProfile w)).settings
  if old.any Purchase.isBought then some .alreadyBought
  else if profile.mayPurchase = false ∨ ceilingCovers profile.spendCeiling p.terms = false then some .notPermitted
  else if old.isNone ∧ purchaseCapacity ≤ b.purchases.length then some .listFull
  else if b.account.purse < dueAtBuy p then some .creditLow
  else none

/-- A FLAT purchase: the debit and the PAID record, the notices, and the Output Engines told (R115, R127).  DESIGN CHOICE: R115 and R127 do not
order the ACCOUNT notice and the evaluation of every output for the debit against the record's entry to PAID and the BOUGHT notice; the purse
and the record change first, then come the ACCOUNT notice, the BOUGHT notice, the evaluations for the debit, and those for the record (log
entry 16). -/
def Block.buyFlat (b : Block) (p : Purchase) : Block :=
  let price := p.terms.flatPrice
  let q := { p with charged := price }
  let paid : Block :=
    { b with purchases := putBought b.purchases q, account := { b.account with purse := b.account.purse - price } }
  let debited := if price = 0 then paid else paid.postAccount .debit
  let noted := debited.postPurchase .bought (some q)
  let told := if price = 0 then noted else noted.tellAccount
  told.tellPurchase p.service p.eventId

/-- A METERED purchase: the METERING record, the charge that is due at once, the notice, and the Output Engines told (R128). -/
def Block.buyMetered (b : Block) (p : Purchase) : Block :=
  let set : Block := { b with purchases := putBought b.purchases p }
  let charged := if p.chargeIsDue then set.chargeStep p.service p.eventId else set
  (charged.postPurchase .bought (findPurchase charged.purchases p.service p.eventId)).tellPurchase p.service p.eventId

/-- A BUY that takes effect (R127, R128). -/
def Block.bought (b : Block) (p : Purchase) : Block :=
  match p.terms.mode with
  | .flat => b.buyFlat p
  | .metered => b.buyMetered p

/-- The DATA that answers a BUY: the record after it and the purse (R126). -/
def Block.boughtReply (b : Block) (p : Purchase) : ReplyBody :=
  .data (.bought ((findPurchase b.purchases p.service p.eventId).getD p).view b.account.purse)

/-- BUY for a service of the table (R125). -/
def Block.buy (b : Block) (w : PresId) (service event : Nat) : Block × ReplyBody :=
  match b.guide.named? service event with
  | none => (b, .refused .unknownEvent)
  | some e =>
    match b.purchaseFor w service e with
    | none => (b, .refused .priceInvalid)
    | some p =>
      match b.buyRefusal w service e.eventId p with
      | some r => (b, .refused r)
      | none => (b.bought p, (b.bought p).boughtReply p)

/-- BUY (R125). -/
def execBuy (h : Head) (output service event : Nat) (s : State) : Host.Outcome State Fault Refusal :=
  answer h (fun b =>
    if b.running = false then (b, .refused .notReady)
    else
      match presId? output with
      | none => (b, .refused .badArgument)
      | some w =>
        if serviceNumberGood service = false then (b, .refused .badArgument)
        else if (b.guide.service? service).isNone then (b, .refused .unknownService)
        else b.buy w service event) s

/-! ## Entitlement messages (R101 to R112) -/

/-- CLEAR ACCOUNT empties the purchase list with the account, with a PURCHASE notice where it held a record (R112, R137). -/
def Block.clearPurchases (b : Block) : Block :=
  if b.purchases.isEmpty then b else ({ b with purchases := [] } : Block).postPurchase .cleared none

/-- Whether a message's kind empties the purchase list (R112). -/
def clearsList : EntitlementKind → Bool
  | .clearAccount => true
  | _ => false

/-- A message of a kind is applied, with what follows a change of the account: the notice, the list emptied, the Output Engines and the
Purchase Unit told (R105 to R112).  DESIGN CHOICE: the two reports of a CREDIT that raised the purse may be taken in either order (R133); every
output is evaluated first, and the charge steps run after (log entry 16). -/
def Block.applyMessage (b : Block) (k : EntitlementKind) : Block :=
  let a := b.account.apply k
  let empties := clearsList k && !b.purchases.isEmpty
  if a = b.account ∧ empties = false then b
  else
    let noted := ({ b with account := a } : Block).postAccount .message
    let cleared := if clearsList k then noted.clearPurchases else noted
    let told := cleared.tellAccount
    if b.account.purse < a.purse then told.purseIncreased else told

/-- An entitlement message at the Entitlement Store: addressed, tested, allowed, applied (R103, R104). -/
def Block.takeMessage (b : Block) (m : EntitlementMessage) : Block :=
  if b.account.addressed m.address = false then b
  else if m.genuine = false then ({ b with account := b.account.integrityFail } : Block).postAccount .integrityFail
  else if kindAllowed m.address m.kind = false then b
  else b.applyMessage m.kind

/-- A cell at the Entitlement Store: its message, if it forms one (R101). -/
def Block.takeEntitlementCell (b : Block) (c : Cell) : Block :=
  match entitlementOf c with
  | none => b
  | some m => b.takeMessage m

/-- ENTITLEMENT MESSAGE CELL (R101). -/
def execEntitlementMessageCell (i : TunerId) (c : Cell) (s : State) : Host.Outcome State Fault Refusal :=
  happen (fun b => b.takeCopy (.entitlement i c.label) (fun x => decide (x.cell = c)) fun _ d => d.takeEntitlementCell c) s

/-! ## The seconds clocks (R113, R129, R136) -/

/-- ENTITLEMENT SECONDS EXPIRY (R113). -/
def execEntitlementSecondsExpiry (s : State) : Host.Outcome State Fault Refusal := happen Block.lapse s

/-- The Purchase Unit's second: viewing clocks with their charges, then cleanup (R129, R136).  DESIGN CHOICE: no rule orders the two on one
expiry; cleanup comes last (log entry 16). -/
def Block.purchaseSecond (b : Block) : Block := b.viewingClocks.cleanup

/-- PURCHASE SECONDS EXPIRY (R129). -/
def execPurchaseSecondsExpiry (s : State) : Host.Outcome State Fault Refusal := happen Block.purchaseSecond s

end Sys2Proof.Machine
end

