-- ==== Sys2Proof/Machine/FaultRequests.lean ====
section
/-! DEFINITION. The commands of faults and containment: CONTAIN, RELEASE, CLEAR FAULTS, FAULT POLICY and FAULT REPORT (R188 to R194). -/

namespace Sys2Proof.Machine

/-- CONTAIN (R188). -/
def execContain (h : Head) (output : Nat) (s : State) : Host.Outcome State Fault Refusal :=
  answer h (fun b =>
    match outId? output with
    | none => (b, .refused .badArgument)
    | some o =>
      let d := (b.out o).delivery
      if d = .off ∨ d = .restLight ∨ d = .restDeep ∨ d = .contained then (b, .refused .wrongState)
      else (b.enterContainment o .request, .ack)) s

/-- Whether a half of an output's field is DRAINING; never for a presentation output (R190). -/
def Block.drains (b : Block) (o : OutId) : Bool :=
  match outRec? o with
  | none => false
  | some r => (b.ring r).halves.toList.any fun h => decide (h.state = .draining)

/-- An output is released: no containment reason, its verdict evaluated, its OUTPUT notice posted (R190). -/
def Block.release (b : Block) (o : OutId) : Block :=
  (b.setFault o { (b.out o).fault with reason := none }).evaluateWith o true

/-- RELEASE (R190). -/
def execRelease (h : Head) (output : Nat) (s : State) : Host.Outcome State Fault Refusal :=
  answer h (fun b =>
    match outId? output with
    | none => (b, .refused .badArgument)
    | some o =>
      if (b.out o).delivery ≠ .contained then (b, .refused .notContained)
      else if b.drains o then (b, .refused .drainBusy)
      else (b.release o, .ack)) s

/-- A fault block without the classes of a set (R191). -/
def FaultBlock.clear (f : FaultBlock) (l : List FaultClass) : FaultBlock :=
  let status := f.status.filter fun c => decide (c ∉ l)
  match f.pointer with
  | some c => if c ∈ l ∧ c ∈ f.status then { f with status := status, pointer := none, log := none } else { f with status := status }
  | none => { f with status := status }

/-- CLEAR FAULTS of an output (R191). -/
def Block.clearFaults (b : Block) (o : OutId) (l : List FaultClass) : Block :=
  let f := (b.out o).fault
  let set := b.setFault o (f.clear l)
  if (f.clear l).status = f.status then set else set.postFault o none

/-- CLEAR FAULTS (R191). -/
def execClearFaults (h : Head) (output : Nat) (classes : FaultSetArg) (s : State) : Host.Outcome State Fault Refusal :=
  answer h (fun b =>
    match outId? output with
    | none => (b, .refused .badArgument)
    | some o => if classes.others then (b, .refused .badArgument) else (b.clearFaults o classes.classes, .ack)) s

/-- FAULT POLICY (R192). -/
def execFaultPolicy (h : Head) (output : Nat) (mask contain : FaultSetArg) (enable : Bool) (s : State) :
    Host.Outcome State Fault Refusal :=
  answer h (fun b =>
    match outId? output with
    | none => (b, .refused .badArgument)
    | some o =>
      if mask.others ∨ contain.others then (b, .refused .badArgument)
      else
        (b.setFault o { (b.out o).fault with
          mask := canon FaultClass.all mask.classes, contain := canon FaultClass.all contain.classes, enable := enable }, .ack)) s

/-- FAULT REPORT (R194). -/
def execFaultReport (h : Head) (output : Nat) (s : State) : Host.Outcome State Fault Refusal :=
  answerQuery h (fun b =>
    match outId? output with
    | none => .refused .badArgument
    | some o => .data (.faultReport (b.out o).fault)) s

end Sys2Proof.Machine
end

