-- ==== Sys2Proof/Machine/LinkFrame.lean ====
section
/-! DEFINITION. Frames on the message link: their layout, the check, what a select period carries, the kind codes and the refusal
codes. -/

namespace Sys2Proof.Machine

/-- The sum of bytes modulo 256. -/
def byteSum (bs : List Byte) : Byte := bs.foldl (· + ·) 0

/-- A whole frame: start mark, body length, kind, tag, body and check (R195). -/
def frameBytes (kind tag : Byte) (body : List Byte) : List Byte :=
  let inner := leBytes 2 body.length ++ [kind, tag] ++ body
  0xC3 :: inner ++ [-(byteSum inner)]

/-- What makes a frame bad (R195). -/
inductive BadFrame where
  | wrongStart | tooLong | truncated | checkMismatch
  deriving DecidableEq, Repr

/-- What a select period carries (R195). -/
inductive PeriodContents where
  | noRequest
  | bad (r : BadFrame)
  | request (kind tag : Byte) (body : List Byte)
  deriving DecidableEq, Repr

/-- What the bytes clocked in during one select period carry (R195): the length is judged as soon as byte 2 is in, the truncation at the
end of the period, the check at the check byte; what follows a request's check byte is ignored. -/
def readPeriod (bytes : List Byte) : PeriodContents :=
  match bytes with
  | [] => .noRequest
  | first :: rest =>
    if first = 0 then .noRequest
    else if first ≠ 0xC3 then .bad .wrongStart
    else
      match rest with
      | lo :: hi :: more =>
        let n := lo.toNat + 256 * hi.toNat
        if 512 < n then .bad .tooLong
        else if more.length < n + 3 then .bad .truncated
        else if byteSum (lo :: hi :: more.take (n + 3)) ≠ 0 then .bad .checkMismatch
        else .request (more.getD 0 0) (more.getD 1 0) ((more.drop 2).take n)
      | _ => .bad .truncated

/-- The kinds that name a request (R197 and the rules that introduce each request). -/
def requestKinds : List Byte :=
  [0x10, 0x11, 0x12, 0x13, 0x18, 0x19, 0x1A, 0x1B, 0x1C,
   0x20, 0x21, 0x22, 0x23, 0x24, 0x25, 0x26, 0x27, 0x28,
   0x30, 0x31, 0x32, 0x38, 0x39, 0x3A, 0x3B, 0x3C,
   0x40, 0x41, 0x42, 0x43, 0x44, 0x50, 0x51, 0x52, 0x53,
   0x58, 0x59, 0x5A, 0x5B, 0x60, 0x61, 0x62, 0x63, 0x64]

/-- The code of a refusal (R197). -/
def RefusalCode.byte : RefusalCode → Byte
  | .badFrame => 0x01
  | .unknownRequest => 0x02
  | .badArgument => 0x03
  | .order => 0x04
  | .wrongState => 0x05
  | .notReady => 0x06
  | .unknownService => 0x07
  | .unknownEvent => 0x08
  | .noTuner => 0x09
  | .wrongCode => 0x0A
  | .lockedOut => 0x0B
  | .notPermitted => 0x0C
  | .creditLow => 0x0D
  | .listFull => 0x0E
  | .priceInvalid => 0x0F
  | .alreadyBought => 0x10
  | .drainBusy => 0x11
  | .notContained => 0x12
  | .overlap => 0x13

/-- The kind code and the subject of a notice (R198). -/
def NoticeKey.codes : NoticeKey → Byte × Nat
  | .output o => (0x01, o.val)
  | .warm p => (0x02, p.val)
  | .ring r => (0x03, r.val)
  | .fault o => (0x04, o.val)
  | .guide => (0x05, 0)
  | .time => (0x06, 0)
  | .account => (0x07, 0)
  | .purchase => (0x08, 0)
  | .started => (0x09, 0)

/-- The bytes of a reply frame where the manual gives them: ACK, REFUSED, and the DATA that means NONE (R197, R199).  The bodies of the
other DATA replies are given by their fields and not by a layout. -/
def Reply.bytes? (r : Reply) : Option (List Byte) :=
  match r.body with
  | .ack => some (frameBytes 0x80 r.tag [])
  | .refused c => some (frameBytes 0x82 r.tag [c.byte])
  | .data .noNotice => some (frameBytes 0x81 r.tag [0])
  | .data _ => none

/-- The eight bytes of an order on the tuning line (R8). -/
def Order.bytes : Order → List Byte
  | .tune n m => [0x01] ++ leBytes 2 n ++ leBytes 4 m.freq ++ [match m.modulation with | .q64 => 0x00 | .q256 => 0x01]
  | .halt n => [0x02] ++ leBytes 2 n ++ [0, 0, 0, 0, 0]

end Sys2Proof.Machine
end

