-- ==== Sys2Proof/Machine/LinkRequests.lean ====
section
/-! DEFINITION. The commands of the message link and start-up: NEXT NOTICE, IDENTIFY, RESTART, DEVICE STATUS, the five stages, bad frames,
unknown requests, and the reading of replies (R195 to R205). -/

namespace Sys2Proof.Machine

/-! ## Notices and status -/

/-- The reply to NEXT NOTICE, and the queue after it (R199). -/
def Block.nextNotice (b : Block) : Block × ReplyBody :=
  match b.link.notices with
  | [] => (b, .data .noNotice)
  | n :: rest => ({ b with link := { b.link with notices := rest } }, .data (.notice n))

/-- NEXT NOTICE (R199). -/
def execNextNotice (h : Head) (s : State) : Host.Outcome State Fault Refusal := answer h Block.nextNotice s

/-- The vendor code of the part (R203). -/
def vendorCode : BitVec 16 := 0x0B4E

/-- The part code (R203). -/
def partCode : BitVec 16 := 0x4860

/-- IDENTIFY (R203). -/
def execIdentify (h : Head) (s : State) : Host.Outcome State Fault Refusal :=
  answerQuery h (fun b => .data (.identity vendorCode partCode b.link.revision b.account.unitAddress)) s

/-- DEVICE STATUS (R203). -/
def execDeviceStatus (h : Head) (s : State) : Host.Outcome State Fault Refusal :=
  answerQuery h (fun b => .data (.deviceStatus b.link.device b.guide.time.utc.isSome b.guide.mapVersion.isSome b.link.notices.length
    b.link.attention)) s

/-! ## RESTART (R205) -/

/-- The Tuner Pool's part of RESTART: every tuner in TUNING, LOCKED or RETRY sends a HALT ORDER and becomes FREE (R2). -/
def Block.haltInUse (b : Block) (t : TunerId) : Block :=
  if (b.tuner t).inUse then
    let sent := b.sendHalt t
    sent.setTuner t { sent.tuner t with state := .free, mux := none, holders := [], timer := none }
  else b

/-- An output context right after the reset line or RESTART, with the fault policy it is given (R48, R183). -/
def Output.restarted (x : Output) : Output :=
  { Output.afterReset with
    fault := { FaultBlock.afterReset with mask := x.fault.mask, contain := x.fault.contain, enable := x.fault.enable } }

/-- Every block's RESTART state, with the notice queue emptied (R2, R15, R19, R48, R97, R170, R205). -/
def Block.restarted (b : Block) : Block :=
  let aborted := (b.abortDrain 0).abortDrain 1
  let halted := tunerIds.foldl Block.haltInUse aborted
  { halted with
    link := { halted.link with notices := [] },
    filter := { tables := Vector.replicate 8 [], copies := [] },
    engines := { halted.engines with
      outputs := halted.engines.outputs.map Output.restarted, warms := Vector.replicate 4 Warm.emptied,
      recalls := Vector.replicate 4 [] },
    keys := halted.keys.reset halted.keys.retention,
    guide := { halted.guide with assemblies := Vector.replicate 8 Assembly.cleared },
    ringWriter := { halted.ringWriter with rings := halted.ringWriter.rings.map fun r => Ring.cleared r.field } }

/-- RESTART, with the acquirer's request that follows it unless the acquirer was IDLE (R22, R205). -/
def Block.restart (b : Block) : Block :=
  if b.guide.acquirer.state = .idle then b.restarted else b.restarted.firstRequest

/-- RESTART (R205). -/
def execRestart (h : Head) (s : State) : Host.Outcome State Fault Refusal := answer h (fun b => (b.restart, .ack)) s

/-! ## The start-up stages (R200) -/

/-- The order check of a stage request: the refusal it meets, if any (R200). -/
def stageRefusal (d : Device) (stage : Nat) : Option RefusalCode :=
  match d with
  | .starting | .running => some .wrongState
  | .unconfigured => if stage = 1 then none else some .order
  | .configuring n => if stage = n + 1 ∨ stage = n then none else some .order

/-- A stage request: its order check, its own check, and its effect with the new stage number (R200). -/
def Block.stage (b : Block) (n : Nat) (check : Option RefusalCode) (effect : Block → Block) : Block × ReplyBody :=
  match stageRefusal b.link.device n with
  | some c => (b, .refused c)
  | none =>
    match check with
    | some c => (b, .refused c)
    | none =>
      let set := effect b
      ({ set with link := { set.link with device := .configuring n } }, .ack)

/-- A lock timeout that SET LINEUP takes (R2). -/
def timeoutGood (timeout : Nat) : Bool := decide (100 ≤ timeout) && decide (timeout ≤ 5000) && decide (timeout % 100 = 0)

/-- A tuner record as SET LINEUP leaves it: FREE or ABSENT by its presence flag (R2). -/
def Tuner.present (x : Tuner) (flag : Bool) : Tuner :=
  { x with state := if flag then .free else .absent, mux := none, holders := [], timer := none }

/-- The pool as SET LINEUP leaves it (R2). -/
def TunerPool.lineup (p : TunerPool) (mask : BitVec 8) (timeout : Nat) : TunerPool :=
  { tuners := Vector.ofFn fun t => (p.tuners.get t).present (mask.getLsbD t), lockTimeout := timeout }

/-- SET LINEUP (R2, R200). -/
def execSetLineup (h : Head) (mask : BitVec 8) (timeout : Nat) (s : State) : Host.Outcome State Fault Refusal :=
  answer h (fun b => b.stage 1 (if mask = 0 ∨ timeoutGood timeout = false then some .badArgument else none) fun b =>
    { b with pool := b.pool.lineup mask timeout }) s

/-- What SET HOME carries, as the value it sets, none where it is refused BAD ARGUMENT (R201). -/
def homeOf (freq : Nat) (modulation : Option Modulation) (guideLabel entitlementLabel : Nat) : Option Home :=
  match modulation with
  | none => none
  | some m =>
    if 50000 ≤ freq ∧ freq ≤ 1002000 ∧ guideLabel ≤ 8190 ∧ entitlementLabel ≤ 8190 ∧ guideLabel ≠ entitlementLabel then
      some { mux := { freq := freq, modulation := m }, guideLabel := guideLabel, entitlementLabel := entitlementLabel }
    else none

/-- SET HOME (R200, R201). -/
def execSetHome (h : Head) (freq : Nat) (modulation : Option Modulation) (guideLabel entitlementLabel : Nat) (s : State) :
    Host.Outcome State Fault Refusal :=
  let home := homeOf freq modulation guideLabel entitlementLabel
  answer h (fun b => b.stage 2 (if home.isNone then some .badArgument else none) fun b =>
    { b with link := { b.link with home := home } }) s

/-- The bytes of a field (R170). -/
def fieldLength (f : FieldSpec) : Nat := 2 * f.capacity * unitLength

/-- A field whose numbers are in range and which ends within the buffer memory (R171). -/
def fieldGood (f : FieldSpec) : Bool :=
  decide (f.base ≤ 8191) && decide (1024 ≤ f.capacity) && decide (f.capacity ≤ 524288) && decide (f.capacity % 1024 = 0)
    && decide (f.base * 65536 + fieldLength f ≤ 536870912)

/-- Whether two fields share a byte (R171). -/
def fieldsOverlap (a b : FieldSpec) : Bool :=
  decide (a.base * 65536 < b.base * 65536 + fieldLength b) && decide (b.base * 65536 < a.base * 65536 + fieldLength a)

/-- The check of SET FIELDS (R171). -/
def fieldsRefusal (r0 r1 : Option FieldSpec) : Option RefusalCode :=
  if r0.all fieldGood = false ∨ r1.all fieldGood = false then some .badArgument
  else
    match r0, r1 with
    | some a, some b => if fieldsOverlap a b then some .overlap else none
    | _, _ => none

/-- SET FIELDS (R171, R200). -/
def execSetFields (h : Head) (r0 r1 : Option FieldSpec) (s : State) : Host.Outcome State Fault Refusal :=
  answer h (fun b => b.stage 3 (fieldsRefusal r0 r1) fun b =>
    (b.setRing 0 (Ring.cleared r0)).setRing 1 (Ring.cleared r1)) s

/-- SET POLICY (R200, R201). -/
def execSetPolicy (h : Head) (deepThreshold deepen : Span) (retention : Bool) (s : State) : Host.Outcome State Fault Refusal :=
  answer h (fun b => b.stage 4 none fun b =>
    { b with engines := { b.engines with deepThreshold := deepThreshold, deepen := deepen },
             keys := { b.keys with retention := retention } }) s

/-- START: STARTING, the acquirer's first request, and RUNNING where both facts hold already (R20, R202).  DESIGN CHOICE: the rules do not order
the GUIDE notice of the request against STARTED; the request comes first (log entry 16). -/
def Block.start (b : Block) : Block × ReplyBody :=
  match b.link.device with
  | .starting | .running => (b, .ack)
  | .configuring 4 =>
    let starting : Block := { b with link := { b.link with device := .starting } }
    ((if b.guide.acquirer.state = .idle then starting.firstRequest else starting).checkRunning, .ack)
  | _ => (b, .refused .order)

/-- START (R202). -/
def execStart (h : Head) (s : State) : Host.Outcome State Fault Refusal := answer h Block.start s

/-! ## Frames that are no request, and the reading of replies (R195 to R197) -/

/-- BAD FRAME: the bytes of a select period that carries a bad frame are answered REFUSED BAD FRAME with tag 0, unless the period has carried a
request or a bad frame before (R195).  Bytes that carry no bad frame are not this event, and change nothing. -/
def execBadFrame (period : List Byte) (s : State) : Host.Outcome State Fault Refusal :=
  happen (fun b => b.hear fun b =>
    match readPeriod period with
    | .bad _ => b.reply 0 (.refused .badFrame)
    | _ => b) s

/-- UNKNOWN REQUEST: a kind that names no request, in a select period that has carried none (R195, R197).  A kind that names one is not this event,
and changes nothing. -/
def execUnknownRequest (tag kind : Byte) (s : State) : Host.Outcome State Fault Refusal :=
  happen (fun b => b.hear fun b => if kind ∈ requestKinds then b else b.reply tag (.refused .unknownRequest)) s

/-- The last byte of the frame being clocked out goes out: where the slot still holds that frame, the slot becomes empty (R196). -/
def Block.readReply (b : Block) : Block :=
  { b with link := { b.link with
      slot := if b.link.clocking.isSome ∧ b.link.clockingSlot = true then none else b.link.slot,
      clocking := none, clockingSlot := false } }

/-- REPLY READ (R196). -/
def execReplyRead (s : State) : Host.Outcome State Fault Refusal := happen Block.readReply s

/-- A select period begins: it has carried no request yet, and the part begins clocking out the frame the slot holds (R195, R196). -/
def Block.beginPeriod (b : Block) : Block :=
  { b with link := { b.link with clocking := b.link.slot, clockingSlot := b.link.slot.isSome, periodSpent := false } }

/-- SELECT PERIOD START (R195, R196). -/
def execSelectPeriodStart (s : State) : Host.Outcome State Fault Refusal := happen Block.beginPeriod s

end Sys2Proof.Machine
end

