-- ==== Sys2Proof/Machine/ParentalRequests.lean ====
section
/-! DEFINITION. The commands of the Parental Unit: SET PROFILE, GET PROFILE, FLIP CATEGORIES, UNLOCK, and its seconds clock (R141 to
R156). -/

namespace Sys2Proof.Machine

/-- The master-code check of SET PROFILE and FLIP CATEGORIES: nothing while the master code is unset, otherwise LOCKED OUT or WRONG CODE where
it fails (R142, R145). -/
def Block.masterRefusal (b : Block) (c : Code) : Option RefusalCode :=
  let m := b.profile 0
  if m.code.isNone then none
  else if m.lockedOut then some .lockedOut
  else if m.correct c then none
  else some .wrongCode

/-- A wrong code is counted against a profile (R143). -/
def Block.wrongCode (b : Block) (p : ProfileId) : Block := b.setProfile p (b.profile p).countWrong

/-- A correct master code, where one was compared, clears profile 0's count (R143). -/
def Block.masterRight (b : Block) : Block := if (b.profile 0).code.isNone then b else b.setProfile 0 (b.profile 0).countRight

/-- A request under the master code: refused, with a wrong code counted against profile 0, or taken (R142, R143). -/
def Block.underMaster (b : Block) (c : Code) (effect : Block → Block) : Block × ReplyBody :=
  match b.masterRefusal c with
  | some .wrongCode => (b.wrongCode 0, .refused .wrongCode)
  | some r => (b, .refused r)
  | none => (effect b.masterRight, .ack)

/-- A profile with the settings, and the code where a new one is given, of SET PROFILE (R145). -/
def Profile.withSettings (p : Profile) (newCode : Option Code) (x : ProfileSettings) : Profile :=
  { p with settings := x, code := match newCode with | some c => some c | none => p.code }

/-- A profile is changed and the Output Engines are told (R145, R147, R154). -/
def Block.changeProfile (b : Block) (p : ProfileId) (f : Profile → Profile) : Block := (b.setProfile p (f (b.profile p))).tellProfile p

/-- SET PROFILE (R145). -/
def execSetProfile (h : Head) (profile : Nat) (code : Code) (newCode : Option Code) (settings : ProfileSettings) (s : State) :
    Host.Outcome State Fault Refusal :=
  answer h (fun b =>
    match profileId? profile with
    | none => (b, .refused .badArgument)
    | some p =>
      if settingsGood settings = false ∨ codeGood code = false ∨ newCode.all codeGood = false then (b, .refused .badArgument)
      else b.underMaster code fun b => b.changeProfile p fun x => x.withSettings newCode settings) s

/-- GET PROFILE (R146). -/
def execGetProfile (h : Head) (profile : Nat) (s : State) : Host.Outcome State Fault Refusal :=
  answerQuery h (fun b =>
    match profileId? profile with
    | none => .refused .badArgument
    | some p =>
      let x := b.profile p
      .data (.profile x.settings x.code.isSome x.spent x.day x.wrongCodes x.lockout x.isSpent (b.boundOutputs p))) s

/-- A profile with the blocked categories that a mask names turned over (R147). -/
def Profile.flip (p : Profile) (mask : BitVec 8) : Profile := { p with settings := { p.settings with blocked := p.settings.blocked ^^^ mask } }

/-- FLIP CATEGORIES (R147). -/
def execFlipCategories (h : Head) (profile : Nat) (mask : BitVec 8) (code : Code) (s : State) : Host.Outcome State Fault Refusal :=
  answer h (fun b =>
    match profileId? profile with
    | none => (b, .refused .badArgument)
    | some p =>
      if codeGood code = false then (b, .refused .badArgument)
      else b.underMaster code fun b => b.changeProfile p fun x => x.flip mask) s

/-! ## UNLOCK (R155) -/

/-- An override of a scope is installed on an output, and its verdict is evaluated (R155). -/
def Block.installOverride (b : Block) (o : OutId) (scope : Scope) : Block :=
  let x := b.out o
  (b.setOut o { x with
    override := some { scope := widerScope scope x.override, service := (x.part.map (·.service)).getD 0,
                       eventId := x.current.map (·.eventId) } }).evaluate o

/-- The profile against which a wrong code of UNLOCK is counted (R155). -/
def Block.unlockBlame (b : Block) (bound : ProfileId) : ProfileId :=
  if bound ≠ 0 ∧ (b.profile bound).lockedOut = false then bound else 0

/-- UNLOCK of a presentation output with a code of four digits, its state checks passed (R155). -/
def Block.unlock (b : Block) (w : PresId) (c : Code) : Block × ReplyBody :=
  let bound := b.boundProfile w
  match matchCode (b.profile 0) (b.profile bound) (decide (bound = 0)) c with
  | .master => ((b.setProfile 0 (b.profile 0).countRight).installOverride (presOut w) .all, .ack)
  | .own => ((b.setProfile bound (b.profile bound).countRight).installOverride (presOut w) .content, .ack)
  | .wrong => (b.wrongCode (b.unlockBlame bound), .refused .wrongCode)

/-- UNLOCK (R155). -/
def execUnlock (h : Head) (output : Nat) (code : Code) (s : State) : Host.Outcome State Fault Refusal :=
  answer h (fun b =>
    match presId? output with
    | none => (b, .refused .badArgument)
    | some w =>
      let d := (b.out (presOut w)).delivery
      if codeGood code = false then (b, .refused .badArgument)
      else if d = .off ∨ d = .restDeep ∨ d = .contained then (b, .refused .wrongState)
      else if (b.profile 0).lockedOut ∧ (b.profile (b.boundProfile w)).lockedOut then (b, .refused .lockedOut)
      else b.unlock w code) s

/-! ## The seconds clock (R144, R152, R153) -/

/-- Every lockout counts one second down (R144). -/
def Block.countLockouts (b : Block) : Block := { b with profiles := b.profiles.map Profile.countdown }

/-- The Parental Unit's second: lockouts, day resets, then accrual (R144, R152, R153).  DESIGN CHOICE: the lockouts' place and the order of the
profiles are not given; lockouts come first, and profiles 0 to 7 accrue in turn, each told and its outputs evaluated before the next one
gains its second (log entry 16). -/
def Block.parentalSecond (b : Block) : Block := profileIds.foldl Block.accrueFor b.countLockouts.dayResets

/-- PARENTAL SECONDS EXPIRY (R152). -/
def execParentalSecondsExpiry (s : State) : Host.Outcome State Fault Refusal := happen Block.parentalSecond s

end Sys2Proof.Machine
end

