-- ==== Sys2Proof/Machine/RecordRequests.lean ====
section
/-! DEFINITION. The commands of recording: RECORD START, RECORD STOP, DRAIN and RING STATUS, and the events of a drain and of the Ring
Writer's seconds clock (R170 to R182). -/

namespace Sys2Proof.Machine

/-! ## RECORD START and RECORD STOP (R172, R173) -/

/-- A record output that has taken up a service: current event, verdict, OUTPUT notice, and an IDLE writer takes a half (R172).  R172 leaves the
fault block of a CONTAINED output as it is; a COPY VIOLATION that this evaluation finds is handled by R186 all the same (DESIGN CHOICE, log
entry 18). -/
def Block.finishRecord (b : Block) (r : RecId) : Block :=
  let o := recOut r
  let judged := (b.selectCurrent o).evaluateWith o true
  if (judged.ring r).writer = .idle then judged.setRing r (judged.ring r).takeHalf else judged

/-- RECORD START of a record output to a service of the table (R172). -/
def Block.record (b : Block) (r : RecId) (s : Service) : Block × ReplyBody :=
  let x := b.out (recOut r)
  if x.part.map (·.service) = some s.number ∧ (x.part.bind (·.tuner)).isSome = true then (b, .ack)
  else
    match b.takeUp (.out (recOut r)) (partOf s 0) with
    | none => (b, .refused .noTuner)
    | some c => (c.finishRecord r, .ack)

/-- RECORD START (R172). -/
def execRecordStart (h : Head) (output service : Nat) (s : State) : Host.Outcome State Fault Refusal :=
  answer h (fun b =>
    if b.running = false then (b, .refused .notReady)
    else
      match recId? output with
      | none => (b, .refused .badArgument)
      | some r =>
        if serviceNumberGood service = false then (b, .refused .badArgument)
        else if (b.ring r).field.isNone then (b, .refused .wrongState)
        else
          match b.guide.service? service with
          | none => (b, .refused .unknownService)
          | some x => b.record r x) s

/-- The writer's part of RECORD STOP: a FILLING half with cells becomes FULL, one without becomes FREE, and the writer is IDLE (R173 steps 4
and 5). -/
def Ring.stopWriter (r : Ring) : Ring :=
  match r.writer with
  | .writing h =>
    if 0 < (r.half h).count then { r.setHalf h { r.half h with state := .full } with lastFilled := some h, writer := .idle }
    else { r.setHalf h Half.freed with writer := .idle }
  | _ => { r with writer := .idle }

/-- Whether RECORD STOP fills a half, and so posts a RING notice (R173). -/
def Ring.stopFills (r : Ring) : Bool :=
  match r.writer with
  | .writing h => decide (0 < (r.half h).count)
  | _ => false

/-- RECORD STOP of a record output that is on and not CONTAINED (R173). -/
def Block.stopRecord (b : Block) (r : RecId) : Block :=
  let o := recOut r
  let freed := b.giveUp (.out o)
  let off := (freed.setOut o (freed.out o).closed).postOutput o
  let stopped := off.setRing r (off.ring r).stopWriter
  if (off.ring r).stopFills then stopped.postRing r else stopped

/-- RECORD STOP (R173). -/
def execRecordStop (h : Head) (output : Nat) (s : State) : Host.Outcome State Fault Refusal :=
  answer h (fun b =>
    match recId? output with
    | none => (b, .refused .badArgument)
    | some r =>
      if (b.out (recOut r)).delivery = .contained then (b, .refused .wrongState)
      else if (b.out (recOut r)).delivery = .off then (b, .ack)
      else (b.stopRecord r, .ack)) s

/-! ## DRAIN (R177 to R180) -/

/-- The half header of a half as it stands (R178). -/
def Ring.header (x : Ring) (r : RecId) (h : HalfId) : RecordItem :=
  .header r h ((x.half h).copy.getD .free) (x.half h).count ((x.half h).first.getD 0) ((x.half h).last.getD 0)

/-- A drain begins: the half is DRAINING, no unit is sent, and the half header goes out (R177, R178). -/
def Block.beginDrain (b : Block) (r : RecId) (h : HalfId) : Block :=
  let x := b.ring r
  (b.setRing r { x.setHalf h { x.half h with state := .draining } with drain := some { half := h, sent := 0 } }).sendRecord r
    (x.header r h)

/-- DRAIN (R177). -/
def execDrain (h : Head) (output half : Nat) (s : State) : Host.Outcome State Fault Refusal :=
  answer h (fun b =>
    match recId? output, halfId? half with
    | some r, some k =>
      if (b.ring r).field.isNone ∨ ((b.ring r).half k).state ≠ .full then (b, .refused .wrongState)
      else if ((b.ring r).half (otherHalf k)).state = .draining then (b, .refused .drainBusy)
      else (b.beginDrain r k, .ack)
    | _, _ => (b, .refused .badArgument)) s

/-- A computation on the block that may meet a byte of buffer memory that nothing has written (log entry 5). -/
def attempt (run : Block → Except Nat Block) (s : State) : Host.Outcome State Fault Refusal :=
  match run s.toBlock with
  | .error a => .fault (.bufferByteUnwritten a)
  | .ok b => .next { s with toBlock := b }

/-- The next unit of the half being drained goes out, while units are left to send (R178). -/
def Block.nextUnit (b : Block) (r : RecId) : Except Nat Block :=
  let x := b.ring r
  match x.drain, x.field with
  | some d, some f => if d.sent < (x.half d.half).count then b.sendUnit r f d else .ok b
  | _, _ => .ok b

/-- DRAIN UNIT SENT (R178). -/
def execDrainUnitSent (r : RecId) (s : State) : Host.Outcome State Fault Refusal := attempt (fun b => b.nextUnit r) s

/-- The drain comes to its end: the units still to send, the end mark, and the completion (R178, R179). -/
def Block.completeDrain (b : Block) (r : RecId) : Except Nat Block :=
  let x := b.ring r
  match x.drain, x.field with
  | some d, some f =>
    match b.sendUnits r f d.half d.sent ((x.half d.half).count - d.sent) with
    | .error a => .error a
    | .ok c =>
      let marked := c.sendRecord r (.endMark r d.half (x.half d.half).count)
      .ok ((marked.setRing r ((marked.ring r).drainDone d.half)).postRing r)
  | _, _ => .ok b

/-- DRAIN COMPLETION (R179). -/
def execDrainCompletion (r : RecId) (s : State) : Host.Outcome State Fault Refusal := attempt (fun b => b.completeDrain r) s

/-! ## RING STATUS and the stamp count (R170, R182) -/

/-- RING STATUS (R182). -/
def execRingStatus (h : Head) (output : Nat) (s : State) : Host.Outcome State Fault Refusal :=
  answerQuery h (fun b =>
    match recId? output with
    | none => .refused .badArgument
    | some r => .data (.ring (b.ring r).view b.ringWriter.stamp)) s

/-- The next stamp, from 4,294,967,295 back to 0 (R170). -/
def nextStamp (n : Nat) : Nat := (n + 1) % 4294967296

/-- The Ring Writer's seconds-clock expiry (R170). -/
def execRingWriterSecondsExpiry (s : State) : Host.Outcome State Fault Refusal :=
  happen (fun b => { b with ringWriter := { b.ringWriter with stamp := nextStamp b.ringWriter.stamp } }) s

end Sys2Proof.Machine
end

