-- ==== Sys2Proof/Machine/PortEvents.lean ====
section
/-! DEFINITION. The events at the ports and the engine: the reset line, lock reports and tuner timers, cells and their copies, and the
unwrap's completion; and the Output Engines' seconds clock (R2, R9, R10, R16, R17, R75, R76, R84, R91, R95, R158, R204). -/

namespace Sys2Proof.Machine

/-! ## The reset line (R204) -/

/-- The Tuner Pool's part of the reset line: every tuner present and FREE, a HALT ORDER on every line, the order number kept and raised
(R1, R2, R8). -/
def Block.resetTuner (b : Block) (t : TunerId) : Block :=
  let sent := b.sendHalt t
  sent.setTuner t { sent.tuner t with state := .free, mux := none, holders := [], timer := none }

/-- Every block's state after the reset line; the non-volatile records, the key slot generations, the order numbers and the buffer memory
are kept (R2, R15, R19, R48, R97, R99, R121, R141, R170, R183, R204, R206).  DESIGN CHOICE: R204 makes the application of power act as the reset
line, R1 and R78 give order numbers and generations 0 when power is first applied, and no rule says what a part used before holds in them, or in
its buffer memory, when power is applied again; this event stands for that too, and keeps them (log entry 38).  DESIGN CHOICE: a select period that goes on after
the release counts as one that has carried no request (log entry 39). -/
def Block.resetLine (b : Block) : Block :=
  let aborted := (b.abortDrain 0).abortDrain 1
  let halted := tunerIds.foldl Block.resetTuner aborted
  { link := { device := .unconfigured, slot := none, clocking := none, clockingSlot := false, periodSpent := false,
              notices := [], home := none, revision := halted.link.revision },
    pool := { tuners := halted.pool.tuners, lockTimeout := 1500 },
    filter := { tables := Vector.replicate 8 [], copies := [] },
    engines := { outputs := Vector.replicate 6 Output.afterReset, bound := halted.engines.bound, warms := Vector.replicate 4 Warm.emptied,
                 recalls := Vector.replicate 4 [], deepThreshold := Span.zero, deepen := Span.zero },
    keys := halted.keys.reset false,
    account := { halted.account with integrityFailures := 0 },
    purchases := halted.purchases,
    guide := Guide.afterReset,
    profiles := halted.profiles,
    ringWriter := { rings := Vector.replicate 2 (Ring.cleared none), stamp := 0, memory := halted.ringWriter.memory },
    ports := halted.ports }

/-- RESET LINE (R204). -/
def execResetLine (s : State) : Host.Outcome State Fault Refusal := happen Block.resetLine s

/-! ## The tuning line (R9, R10) -/

/-- Byte `i` of a report (R8). -/
def reportByte (x : BitVec 64) (i : Nat) : Nat := (x.toNat / 256 ^ i) % 256

/-- What a LOCK REPORT says once its form is checked: its order number and whether it reports lock (R8, R9). -/
def readReport (x : BitVec 64) : Option (Nat × Bool) :=
  if reportByte x 0 ≠ 0x81 then none
  else if reportByte x 3 = 1 then some (reportByte x 1 + 256 * reportByte x 2, true)
  else if reportByte x 3 = 0 then some (reportByte x 1 + 256 * reportByte x 2, false)
  else none

/-- A LOCK REPORT at the Tuner Pool (R9). -/
def Block.takeReport (b : Block) (t : TunerId) (x : BitVec 64) : Block :=
  match readReport x with
  | none => b
  | some (n, locked) =>
    if n ≠ (b.tuner t).order then b
    else
      match (b.tuner t).state, locked with
      | .tuning, true | .retry, true => b.lockTuner t
      | .locked, false => b.unlockTuner t
      | _, _ => b

/-- LOCK REPORT (R9). -/
def execLockReport (t : TunerId) (report : BitVec 64) (s : State) : Host.Outcome State Fault Refusal :=
  happen (fun b => b.takeReport t report) s

/-- Whether a tuner's timer runs as a kind (R10). -/
def Tuner.runs (x : Tuner) (k : TimerKind) : Bool := decide (x.timer.map (·.kind) = some k)

/-- The lock timer of a TUNING tuner expires (R10).  Where no lock timer runs this is not an event, and nothing changes. -/
def Block.lockTimeout (b : Block) (t : TunerId) : Block :=
  let x := b.tuner t
  if x.state = .tuning ∧ x.runs .lock = true then
    (b.setTuner t { x with state := .retry, timer := some { kind := .retry, left := retryMs } }).reportAll t .timedOut
  else b

/-- LOCK TIMER EXPIRY (R10). -/
def execLockTimerExpiry (t : TunerId) (s : State) : Host.Outcome State Fault Refusal := happen (fun b => b.lockTimeout t) s

/-- The retry timer of a RETRY tuner expires (R10).  Where no retry timer runs this is not an event, and nothing changes. -/
def Block.retry (b : Block) (t : TunerId) : Block :=
  let x := b.tuner t
  match x.mux with
  | none => b
  | some m =>
    if x.state = .retry ∧ x.runs .retry = true then
      let sent := b.sendTune t m
      sent.setTuner t { sent.tuner t with timer := some { kind := .retry, left := retryMs } }
    else b

/-- RETRY TIMER EXPIRY (R10). -/
def execRetryTimerExpiry (t : TunerId) (s : State) : Host.Outcome State Fault Refusal := happen (fun b => b.retry t) s

/-! ## Arriving cells (R16, R17) -/

/-- The label on which nothing is carried (R16). -/
def fillerLabel : Nat := 8191

/-- CONTINUITY is raised on each output that an entry names (R17).  DESIGN CHOICE: no rule orders the outputs of one break, nor their FAULT
notices; they are taken in the order P0 to P3, R0, R1 (log entry 16). -/
def Block.raiseBreak (b : Block) (e : LabelEntry) : Block := e.outputs.foldl (fun c o => c.raise o .continuity e.label) b

/-- A cell that is not dropped: the continuity check, then its copies (R16 steps 5 and 6, R17). -/
def Block.routeCell (b : Block) (i : TunerId) (c : Cell) (e : LabelEntry) : Block :=
  let checked := b.setTable i (advanceExpect (b.table i) c.label c.count)
  let raised := if e.breaks c.count then checked.raiseBreak e else checked
  { raised with filter := { raised.filter with copies := raised.filter.copies ++ e.copies i (b.tuner i).mux c } }

/-- A cell on an input (R16). -/
def Block.arrive (b : Block) (i : TunerId) (c : Cell) : Block :=
  if c.label = fillerLabel ∨ c.scramble = .reserved ∨ (b.tuner i).state ≠ .locked then b
  else
    match entryOf (b.table i) c.label with
    | none => b
    | some e => b.routeCell i c e

/-- CELL ARRIVAL (R16). -/
def execCellArrival (i : TunerId) (c : Cell) (s : State) : Host.Outcome State Fault Refusal := happen (fun b => b.arrive i c) s

/-! ## A copy at the Output Engines (R75, R76, R95) -/

/-- Whether a label is watched for silence: the video label of a presentation output, every listed label of a record output (R76). -/
def ServicePart.watches (p : ServicePart) (o : OutId) (label : Nat) : Bool :=
  decide (label = p.video) ||
    ((outRec? o).isSome && (decide (label = p.audioLabel) || decide (p.captions = some label)))

/-- A cell on a watched label sets the silence count of a LIVE output to 0 (R76). -/
def Block.hearCell (b : Block) (o : OutId) (p : ServicePart) (c : Cell) : Block :=
  if p.watches o c.label then b.setOut o { b.out o with silence := 0 } else b

/-- The parity that a scrambled cell names (R95). -/
def parityOf : Scramble → Option Parity
  | .even => some .even
  | .odd => some .odd
  | _ => none

/-- The key of a parity in a slot (R95). -/
def KeySlot.key? (x : KeySlot) (p : Parity) : Option ControlKey :=
  match p with
  | .even => x.evenKey
  | .odd => x.oddKey

/-- A slot after a cell of a parity has been deciphered: the parity in use is the cell's, and on a turn the key of the parity left is spent
(R95). -/
def KeySlot.turn (x : KeySlot) (p : Parity) : KeySlot :=
  match x.parity, p with
  | some .even, .odd => { x with parity := some .odd, evenKey := none }
  | some .odd, .even => { x with parity := some .even, oddKey := none }
  | _, q => { x with parity := some q }

/-- A deciphered cell: its image through the fixed transformation, its scramble field CLEAR, the rest as it was (R95). -/
def decipheredCell (k : ControlKey) (c : Cell) : Cell := { c with scramble := .clear, image := Config.decipher k c.image }

/-- The copy control handed over with a cell of a record output (R174). -/
def Block.copyControlOf (b : Block) (o : OutId) : CopyControl :=
  ((b.currentRecord (b.out o)).map (·.copy)).getD .free

/-- A cell that passes goes out on the presentation stream port, or to the Ring Writer (R75, R174). -/
def Block.deliver (b : Block) (o : OutId) (c : Cell) : Block :=
  match outPres? o, outRec? o with
  | some w, _ =>
    { b with ports := { b.ports with presentation := vset b.ports.presentation w (b.ports.presentation.get w ++ [c]) } }
  | none, some r => b.storeCell r c (b.copyControlOf o)
  | none, none => b

/-- A cell of an output is dropped for want of a key: KEY GAP is raised, once per cell, by the first of its copies that finds no key; its further
copies raise nothing more (R96, R184).  DEDUCED: a cell whose label one output lists in two roles comes to it as two copies (R16), and is one
cell (log entry 37). -/
def Block.keyGap (b : Block) (i : TunerId) (o : OutId) (m : CopyMark) (label : Nat) : Block :=
  if m = .raised then b else (b.noteRaised i (.out o)).raise o .keyGap label

/-- A scrambled cell of a LIVE output at the Key Unit, and what comes back (R95, R96). -/
def Block.descramble (b : Block) (i : TunerId) (o : OutId) (k : SlotId) (q : Parity) (m : CopyMark) (c : Cell) : Block :=
  let x := b.slot k
  if x.state ≠ .live then b
  else
    match x.key? q with
    | none => b.keyGap i o m c.label
    | some key => ({ b with keys := b.keys.setSlot k (x.turn q) } : Block).deliver o (decipheredCell key c)

/-- A copy at a LIVE output (R75). -/
def Block.passCell (b : Block) (i : TunerId) (o : OutId) (p : ServicePart) (m : CopyMark) (c : Cell) : Block :=
  match parityOf c.scramble, p.slot with
  | none, _ => if c.scramble = .clear then b.deliver o c else b
  | some q, some r => b.descramble i o r.slot q m c
  | some _, none => b

/-- A copy from an input tagged with a context and a role at the Output Engines: discarded for a warm context and for an output that is not LIVE
(R16, R61, R75, R76). -/
def Block.takeOutputCopy (b : Block) (i : TunerId) (ctx : CtxId) (role : Role) (m : CopyMark) (c : Cell) : Block :=
  match ctx with
  | .warm _ => b
  | .out o =>
    match (b.out o).part with
    | none => b
    | some p => if role = .key ∨ (b.out o).delivery ≠ .live then b else (b.hearCell o p c).passCell i o p m c

/-- OUTPUT CELL COPY (R75). -/
def execOutputCellCopy (feed : Feed) (role : Role) (c : Cell) (s : State) : Host.Outcome State Fault Refusal :=
  happen (fun b =>
    b.takeCopy (.output feed.input feed.ctx) (fun x => x.isOutput feed.input feed.ctx role c) fun x d =>
      d.takeOutputCopy feed.input feed.ctx role x.mark c) s

/-! ## Key messages and the unwrap engine (R84 to R94) -/

/-- A key-role cell at the Key Unit: its message, if it forms one, reaches every matched slot in ascending slot order (R84, R86). -/
def Block.takeKeyCell (b : Block) (i : TunerId) (c : Cell) : Block :=
  match keyMessageOf c with
  | none => b
  | some m => (b.keys.matched (b.table i) c.label).foldl (fun d k => d.keyMessageFor m k) b

/-- KEY MESSAGE CELL (R84). -/
def execKeyMessageCell (i : TunerId) (c : Cell) (s : State) : Host.Outcome State Fault Refusal :=
  happen (fun b => b.takeCopy (.key i c.label) (fun x => decide (x.cell = c)) fun _ d => d.takeKeyCell i c) s

/-- UNWRAP COMPLETION (R91). -/
def execUnwrapCompletion (s : State) : Host.Outcome State Fault Refusal := happen Block.completeUnwrap s

/-! ## The Output Engines' seconds clock (R38, R68, R70, R76, R158) -/

/-- The stop-at and the rest second of one output, in the order in which they are taken (R68, R70; log entry 9). -/
def Block.restAndStop (order : ExpiryOrder) (b : Block) (o : OutId) : Block :=
  match order with
  | .stopAtFirst => (b.stopAtDue o).restSecond o
  | .deepeningFirst => (b.restSecond o).stopAtDue o

/-- The Output Engines' second: current events and verdicts, then stop-ats and rests, then silence (R38, R68, R70, R76, R158; log entry 9).
DESIGN CHOICE: R158 orders the evaluations of the outputs alone; their stop-ats with their rest seconds, and after these the silence counts with
the STREAM SILENCE that they raise, are taken in the order P0 to P3, R0, R1 as well (log entry 9). -/
def Block.outputSecond (order : ExpiryOrder) (b : Block) : Block :=
  outIds.foldl Block.silenceSecond (outIds.foldl (Block.restAndStop order) (b.selectAll outIds))

/-- OUTPUT ENGINES SECONDS EXPIRY (R158). -/
def execOutputEnginesSecondsExpiry (order : ExpiryOrder) (s : State) : Host.Outcome State Fault Refusal :=
  happen (Block.outputSecond order) s

end Sys2Proof.Machine
end

