-- ==== Sys2Proof/Machine/StatusQueries.lean ====
section
/-! DEFINITION. The queries of tuners, filter, keys and account: TUNERS, FILTER, KEY SLOTS, ACCOUNT STATUS, ENTITLEMENTS, SERVICE KEY LIST
and PURCHASES (R12, R18, R98, R117 to R119, R140). -/

namespace Sys2Proof.Machine

/-- TUNERS (R12). -/
def execTuners (h : Head) (s : State) : Host.Outcome State Fault Refusal :=
  answerQuery h (fun b => .data (.tuners b.pool.tuners.toList)) s

/-- FILTER (R18).  The tables are held in ascending label order. -/
def execFilter (h : Head) (input : Nat) (s : State) : Host.Outcome State Fault Refusal :=
  answerQuery h (fun b =>
    match inputId? input with
    | none => .refused .badArgument
    | some i => .data (.filter (b.table i))) s

/-- One slot as KEY SLOTS shows it (R98).  DESIGN CHOICE: the manual does not say whether the place of a RETAINED slot in the retained order counts
from 0 or from 1; it counts from 0, the slot that entered first (log entry 30). -/
def KeyUnit.slotView (u : KeyUnit) (k : SlotId) : SlotView :=
  let x := u.slots.get k
  { state := x.state, tag := x.tag, generation := x.generation, users := x.users, hasEven := x.evenKey.isSome, hasOdd := x.oddKey.isSome,
    parity := x.parity, lastVersion := x.lastVersion, retain := x.retain, mark := x.mark, retainedPlace := u.retained.findIdx? (· = k) }

/-- One queue entry as KEY SLOTS shows it (R98). -/
def QueueEntry.view (e : QueueEntry) : QueueView :=
  { slot := e.slot, generation := e.generation, version := e.message.version, serviceKeyId := e.message.serviceKeyId,
    accessClass := e.message.accessClass, eventId := e.message.event }

/-- The engine as KEY SLOTS shows it (R98). -/
def Unwrap.view (w : Unwrap) : EngineView := { slot := w.slot, generation := w.generation, version := w.message.version }

/-- KEY SLOTS (R98). -/
def execKeySlots (h : Head) (s : State) : Host.Outcome State Fault Refusal :=
  answerQuery h (fun b => .data (.keySlots (slotIds.map b.keys.slotView) (b.keys.queue.map QueueEntry.view) (b.keys.engine.map Unwrap.view)
    b.keys.retention)) s

/-- ACCOUNT STATUS (R117). -/
def execAccountStatus (h : Head) (s : State) : Host.Outcome State Fault Refusal :=
  answerQuery h (fun b =>
    let a := b.account
    .data (.accountStatus a.unitAddress a.group a.purse a.sequence a.entitlements.length a.serviceKeys.length a.integrityFailures
      b.guide.time.utc.isSome)) s

/-- What ENTITLEMENTS gives from a first class on: how many entries fit in one reply is a free value (R118; log entry 8). -/
def Block.entitlementsFrom (b : Block) (first : Nat) : Data :=
  let l := (b.account.entitlements.filter fun e => decide (first ≤ e.cls)).map fun e => (e, e.granted b.guide.time)
  let cut := cutAfter l (Config.entitlementRoom l)
  .entitlements cut.1 cut.2

/-- ENTITLEMENTS (R118). -/
def execEntitlements (h : Head) (first : Nat) (s : State) : Host.Outcome State Fault Refusal :=
  answerQuery h (fun b => if first = 0 ∨ 65535 < first then .refused .badArgument else .data (b.entitlementsFrom first)) s

/-- SERVICE KEY LIST (R119). -/
def execServiceKeyList (h : Head) (s : State) : Host.Outcome State Fault Refusal :=
  answerQuery h (fun b => .data (.serviceKeys (b.account.serviceKeys.map fun r => (r.keyId, r.validFrom, r.validUntil,
    r.valid b.guide.time)))) s

/-- What PURCHASES gives from a list position on: how many records fit in one reply is a free value (R140; log entry 8). -/
def Block.purchasesFrom (b : Block) (first : Nat) : Data :=
  let l := (b.purchases.drop first).map Purchase.listed
  let cut := cutAfter l (Config.purchaseRoom l)
  .purchases cut.1 cut.2

/-- PURCHASES (R140). -/
def execPurchases (h : Head) (first : Nat) (s : State) : Host.Outcome State Fault Refusal :=
  answerQuery h (fun b => if 31 < first then .refused .badArgument else .data (b.purchasesFrom first)) s

end Sys2Proof.Machine
end

