-- ==== Sys2Proof/Machine/Dispatch.lean ====
section
/-! DEFINITION. The meaning of every command, by one call each. -/

namespace Sys2Proof.Machine

/-- The effect of a command on everything but the queue. -/
def exec (i : Instr) (s : State) : Host.Outcome State Fault Refusal :=
  match i with
  | .nextNotice h => Sys2Proof.Machine.execNextNotice h s
  | .identify h => Sys2Proof.Machine.execIdentify h s
  | .restart h => Sys2Proof.Machine.execRestart h s
  | .deviceStatus h => Sys2Proof.Machine.execDeviceStatus h s
  | .setLineup h mask timeout => Sys2Proof.Machine.execSetLineup h mask timeout s
  | .setHome h freq modulation guideLabel entitlementLabel => Sys2Proof.Machine.execSetHome h freq modulation guideLabel entitlementLabel s
  | .setFields h r0 r1 => Sys2Proof.Machine.execSetFields h r0 r1 s
  | .setPolicy h deepThreshold deepen retention => Sys2Proof.Machine.execSetPolicy h deepThreshold deepen retention s
  | .start h => Sys2Proof.Machine.execStart h s
  | .badFrame period => Sys2Proof.Machine.execBadFrame period s
  | .unknownRequest tag kind => Sys2Proof.Machine.execUnknownRequest tag kind s
  | .replyRead => Sys2Proof.Machine.execReplyRead s
  | .outputStatus h output => Sys2Proof.Machine.execOutputStatus h output s
  | .tune h output service => Sys2Proof.Machine.execTune h output service s
  | .warm h output service => Sys2Proof.Machine.execWarm h output service s
  | .audio h output index => Sys2Proof.Machine.execAudio h output index s
  | .bind h output profile => Sys2Proof.Machine.execBind h output profile s
  | .stopAt h output time => Sys2Proof.Machine.execStopAt h output time s
  | .rest h output tolerance hold => Sys2Proof.Machine.execRest h output tolerance hold s
  | .wake h output => Sys2Proof.Machine.execWake h output s
  | .close h output => Sys2Proof.Machine.execClose h output s
  | .tuners h => Sys2Proof.Machine.execTuners h s
  | .filter h input => Sys2Proof.Machine.execFilter h input s
  | .keySlots h => Sys2Proof.Machine.execKeySlots h s
  | .accountStatus h => Sys2Proof.Machine.execAccountStatus h s
  | .entitlements h first => Sys2Proof.Machine.execEntitlements h first s
  | .serviceKeyList h => Sys2Proof.Machine.execServiceKeyList h s
  | .buy h output service event => Sys2Proof.Machine.execBuy h output service event s
  | .purchases h first => Sys2Proof.Machine.execPurchases h first s
  | .guideStatus h => Sys2Proof.Machine.execGuideStatus h s
  | .seek h q => Sys2Proof.Machine.execSeek h q s
  | .multiplexes h => Sys2Proof.Machine.execMultiplexes h s
  | .services h first => Sys2Proof.Machine.execServices h first s
  | .event h service event => Sys2Proof.Machine.execEvent h service event s
  | .setProfile h profile code newCode settings => Sys2Proof.Machine.execSetProfile h profile code newCode settings s
  | .getProfile h profile => Sys2Proof.Machine.execGetProfile h profile s
  | .flipCategories h profile mask code => Sys2Proof.Machine.execFlipCategories h profile mask code s
  | .unlock h output code => Sys2Proof.Machine.execUnlock h output code s
  | .recordStart h output service => Sys2Proof.Machine.execRecordStart h output service s
  | .recordStop h output => Sys2Proof.Machine.execRecordStop h output s
  | .drain h output half => Sys2Proof.Machine.execDrain h output half s
  | .ringStatus h output => Sys2Proof.Machine.execRingStatus h output s
  | .contain h output => Sys2Proof.Machine.execContain h output s
  | .release h output => Sys2Proof.Machine.execRelease h output s
  | .clearFaults h output classes => Sys2Proof.Machine.execClearFaults h output classes s
  | .faultPolicy h output mask contain enable => Sys2Proof.Machine.execFaultPolicy h output mask contain enable s
  | .faultReport h output => Sys2Proof.Machine.execFaultReport h output s
  | .resetLine => Sys2Proof.Machine.execResetLine s
  | .lockReport t report => Sys2Proof.Machine.execLockReport t report s
  | .lockTimerExpiry t => Sys2Proof.Machine.execLockTimerExpiry t s
  | .retryTimerExpiry t => Sys2Proof.Machine.execRetryTimerExpiry t s
  | .cellArrival n c => Sys2Proof.Machine.execCellArrival n c s
  | .outputCellCopy feed role c => Sys2Proof.Machine.execOutputCellCopy feed role c s
  | .keyMessageCell n c => Sys2Proof.Machine.execKeyMessageCell n c s
  | .entitlementMessageCell n c => Sys2Proof.Machine.execEntitlementMessageCell n c s
  | .guideCell n c => Sys2Proof.Machine.execGuideCell n c s
  | .unwrapCompletion => Sys2Proof.Machine.execUnwrapCompletion s
  | .drainCompletion r => Sys2Proof.Machine.execDrainCompletion r s
  | .guideSecondsExpiry => Sys2Proof.Machine.execGuideSecondsExpiry s
  | .outputEnginesSecondsExpiry order => Sys2Proof.Machine.execOutputEnginesSecondsExpiry order s
  | .entitlementSecondsExpiry => Sys2Proof.Machine.execEntitlementSecondsExpiry s
  | .purchaseSecondsExpiry => Sys2Proof.Machine.execPurchaseSecondsExpiry s
  | .parentalSecondsExpiry => Sys2Proof.Machine.execParentalSecondsExpiry s
  | .ringWriterSecondsExpiry => Sys2Proof.Machine.execRingWriterSecondsExpiry s
  | .drainUnitSent r => Sys2Proof.Machine.execDrainUnitSent r s
  | .selectPeriodStart => Sys2Proof.Machine.execSelectPeriodStart s

end Sys2Proof.Machine
end

