-- ==== Sys2Proof/Machine/Step.lean ====
section
/-! DEFINITION. One step of the block: the command at the front of the queue, or one millisecond on an empty queue. -/

namespace Sys2Proof.Machine

/-- A tuner's timer one millisecond later (R1, R12; log entry 14). -/
def Tuner.millisecond (x : Tuner) : Tuner :=
  { x with timer := x.timer.map fun t => { t with left := t.left - 1 } }

/-- The block one millisecond later: the running tuner timers count down, and nothing else moves (log entry 14). -/
def Block.millisecond (b : Block) : Block :=
  { b with pool := { b.pool with tuners := b.pool.tuners.map Tuner.millisecond } }

/-- One step: the command at the front of the queue takes effect on everything but the queue; on an empty queue one millisecond passes. -/
def step (s : State) : Host.Outcome State Fault Refusal :=
  match s.pending with
  | [] => .next { s with toBlock := s.toBlock.millisecond }
  | c :: rest => exec c { s with pending := rest }

/-- The state with the command that a word spells at the front of its queue; no row of the table gives bits, so no word spells one. -/
def State.withFetchWord (s : State) (nbits w : Nat) : State :=
  match Sys2Proof.decodeTableWord nbits w with
  | some c => { s with pending := c :: s.pending }
  | none => s

end Sys2Proof.Machine
end

