-- ==== Sys2Proof/Safety.lean ====
section
/-! DEFINITION. What counts as a safe run, which commands are requests, and the facts about the block that hold at reset and that every
step keeps, in the terms in which claims are stated. -/

namespace Sys2Proof.Machine

/-! ## Safe runs -/

/-- Whether an outcome goes on. -/
def goesOn (o : Host.Outcome State Fault Refusal) : Bool :=
  match o with
  | .next _ => true
  | _ => false

/-- A command is safe at a state when its effect goes on: the one command that can stop is a drain that reads a byte of buffer memory that
nothing has written (log entry 5). -/
def safeAt (c : Instr) (s : State) : Prop := goesOn (exec c s) = true

/-- A run of steps in which no step stops. -/
def safeFor : Nat → State → Prop
  | 0, _ => True
  | n + 1, s =>
    match step s with
    | .next t => safeFor n t
    | _ => False

/-! ## Requests -/

/-- The head of a request, none for a command that is no request (R195, R197). -/
def requestHead : Instr → Option Head
  | .nextNotice h => some h
  | .identify h => some h
  | .restart h => some h
  | .deviceStatus h => some h
  | .setLineup h _ _ => some h
  | .setHome h _ _ _ _ => some h
  | .setFields h _ _ => some h
  | .setPolicy h _ _ _ => some h
  | .start h => some h
  | .outputStatus h _ => some h
  | .tune h _ _ => some h
  | .warm h _ _ => some h
  | .audio h _ _ => some h
  | .bind h _ _ => some h
  | .stopAt h _ _ => some h
  | .rest h _ _ _ => some h
  | .wake h _ => some h
  | .close h _ => some h
  | .tuners h => some h
  | .filter h _ => some h
  | .keySlots h => some h
  | .accountStatus h => some h
  | .entitlements h _ => some h
  | .serviceKeyList h => some h
  | .buy h _ _ _ => some h
  | .purchases h _ => some h
  | .guideStatus h => some h
  | .seek h _ => some h
  | .multiplexes h => some h
  | .services h _ => some h
  | .event h _ _ => some h
  | .setProfile h _ _ _ _ => some h
  | .getProfile h _ => some h
  | .flipCategories h _ _ _ => some h
  | .unlock h _ _ => some h
  | .recordStart h _ _ => some h
  | .recordStop h _ => some h
  | .drain h _ _ => some h
  | .ringStatus h _ => some h
  | .contain h _ => some h
  | .release h _ => some h
  | .clearFaults h _ _ => some h
  | .faultPolicy h _ _ _ _ => some h
  | .faultReport h _ => some h
  | .badFrame _ | .unknownRequest _ _ | .replyRead | .resetLine | .lockReport _ _ | .lockTimerExpiry _ | .retryTimerExpiry _ | .cellArrival _ _
  | .outputCellCopy _ _ _ | .keyMessageCell _ _ | .entitlementMessageCell _ _ | .guideCell _ _ | .unwrapCompletion | .drainCompletion _ | .guideSecondsExpiry | .outputEnginesSecondsExpiry _
  | .entitlementSecondsExpiry | .purchaseSecondsExpiry | .parentalSecondsExpiry | .ringWriterSecondsExpiry | .drainUnitSent _ | .selectPeriodStart => none

/-- The kind code of a request frame (R12, R18, R40 to R43, R53, R62, R65 to R72, R77, R98, R117 to R119, R125, R140, R145 to R147, R155, R172,
R173, R177, R182, R188 to R194, R197). -/
def requestKind : Instr → Option Byte
  | .nextNotice _ => some 0x10
  | .identify _ => some 0x11
  | .restart _ => some 0x12
  | .deviceStatus _ => some 0x13
  | .setLineup _ _ _ => some 0x18
  | .setHome _ _ _ _ _ => some 0x19
  | .setFields _ _ _ => some 0x1A
  | .setPolicy _ _ _ _ => some 0x1B
  | .start _ => some 0x1C
  | .outputStatus _ _ => some 0x20
  | .tune _ _ _ => some 0x21
  | .warm _ _ _ => some 0x22
  | .audio _ _ _ => some 0x23
  | .bind _ _ _ => some 0x24
  | .stopAt _ _ _ => some 0x25
  | .rest _ _ _ _ => some 0x26
  | .wake _ _ => some 0x27
  | .close _ _ => some 0x28
  | .tuners _ => some 0x30
  | .filter _ _ => some 0x31
  | .keySlots _ => some 0x32
  | .accountStatus _ => some 0x38
  | .entitlements _ _ => some 0x39
  | .serviceKeyList _ => some 0x3A
  | .buy _ _ _ _ => some 0x3B
  | .purchases _ _ => some 0x3C
  | .guideStatus _ => some 0x40
  | .seek _ _ => some 0x41
  | .multiplexes _ => some 0x42
  | .services _ _ => some 0x43
  | .event _ _ _ => some 0x44
  | .setProfile _ _ _ _ _ => some 0x50
  | .getProfile _ _ => some 0x51
  | .flipCategories _ _ _ _ => some 0x52
  | .unlock _ _ _ => some 0x53
  | .recordStart _ _ _ => some 0x58
  | .recordStop _ _ => some 0x59
  | .drain _ _ _ => some 0x5A
  | .ringStatus _ _ => some 0x5B
  | .contain _ _ => some 0x60
  | .release _ _ => some 0x61
  | .clearFaults _ _ _ => some 0x62
  | .faultPolicy _ _ _ _ _ => some 0x63
  | .faultReport _ _ => some 0x64
  | .badFrame _ | .unknownRequest _ _ | .replyRead | .resetLine | .lockReport _ _ | .lockTimerExpiry _ | .retryTimerExpiry _ | .cellArrival _ _
  | .outputCellCopy _ _ _ | .keyMessageCell _ _ | .entitlementMessageCell _ _ | .guideCell _ _ | .unwrapCompletion | .drainCompletion _
  | .guideSecondsExpiry | .outputEnginesSecondsExpiry _ | .entitlementSecondsExpiry | .purchaseSecondsExpiry | .parentalSecondsExpiry
  | .ringWriterSecondsExpiry | .drainUnitSent _ | .selectPeriodStart => none

/-- The number of a stage that a request takes, 1 to 4 (R200). -/
def stageNumber : Instr → Option Nat
  | .setLineup _ _ _ => some 1
  | .setHome _ _ _ _ _ => some 2
  | .setFields _ _ _ => some 3
  | .setPolicy _ _ _ _ => some 4
  | _ => none

/-- The state whose block is `c` with a reply to a request placed in the reply slot (R196). -/
def State.after (s : State) (h : Head) (body : ReplyBody) (c : Block) : State := { s with toBlock := c.reply h.tag body }

/-- The state with a reply to a request in the reply slot, and nothing else changed (R196). -/
def State.answered (s : State) (h : Head) (body : ReplyBody) : State := s.after h body s.toBlock

/-- A request is the first that its select period carries, with no bad frame before it, and its body has the length of its kind (R195, R197). -/
def Heard (h : Head) (s : State) : Prop := h.bodyFits = true ∧ s.link.periodSpent = false

/-- A request is answered with a body and changes nothing else. -/
def Answers (c : Instr) (s : State) (body : ReplyBody) : Prop :=
  ∃ h, requestHead c = some h ∧ exec c s = .next (s.answered h body)

/-- A request is answered with DATA and changes nothing else. -/
def Returns (c : Instr) (s : State) (d : Data) : Prop := Answers c s (.data d)

/-- A request is refused with a code and changes nothing else. -/
def Refuses (c : Instr) (s : State) (code : RefusalCode) : Prop := Answers c s (.refused code)

/-- A request is answered ACK and changes nothing else. -/
def AcksIdly (c : Instr) (s : State) : Prop := Answers c s .ack

/-- A request is answered ACK and leaves the block `c`. -/
def Acks (i : Instr) (s : State) (c : Block) : Prop := ∃ h, requestHead i = some h ∧ exec i s = .next (s.after h .ack c)

/-- A command that is no request leaves the block `c`. -/
def Makes (i : Instr) (s : State) (c : Block) : Prop := exec i s = .next { s with toBlock := c }

/-- The commands whose bodies have the length of their kind, where they are requests (R197). -/
def wellSized (c : Instr) : Prop := ∀ h, requestHead c = some h → h.bodyFits = true

/-! ## Key slots and tuners -/

/-- The key slots: no users exactly in FREE and RETAINED, no tag exactly in FREE, no two slots outside FREE with the same tag, and the retained
order naming each RETAINED slot once (R78, R79). -/
def SlotsConsistent (b : Block) : Prop :=
  (∀ k, (b.slot k).users = [] ↔ ((b.slot k).state = .free ∨ (b.slot k).state = .retained))
    ∧ (∀ k, (b.slot k).tag = none ↔ (b.slot k).state = .free)
    ∧ (∀ j k, j ≠ k → (b.slot j).state ≠ .free → (b.slot j).tag ≠ (b.slot k).tag)
    ∧ b.keys.retained.Nodup ∧ (∀ k, k ∈ b.keys.retained ↔ (b.slot k).state = .retained)

/-- The class of a holder (R3). -/
def HolderId.cls : HolderId → HolderClass
  | .ctx (.out _) => .primary
  | .ctx (.warm _) => .warm
  | .acquirer => .guide

/-- The tuners: no holders and no multiplex exactly in FREE and ABSENT; the lock timer runs exactly in TUNING and the retry timer exactly in
RETRY; every holder stands once in a list and with its own class (R1, R3, R4). -/
def TunersConsistent (b : Block) : Prop :=
  ∀ t, ((b.tuner t).holders = [] ↔ ((b.tuner t).state = .free ∨ (b.tuner t).state = .absent))
    ∧ ((b.tuner t).mux = none ↔ ((b.tuner t).state = .free ∨ (b.tuner t).state = .absent))
    ∧ ((b.tuner t).timer.map (·.kind) = match (b.tuner t).state with | .tuning => some .lock | .retry => some .retry | _ => none)
    ∧ ((b.tuner t).holders.map (·.who)).Nodup ∧ ∀ h ∈ (b.tuner t).holders, h.cls = h.who.cls

/-! ## Contexts, and what the tuners, the label tables and the key slots hold of them -/

/-- A destination stands under a label in the table of an input (R13). -/
def Routes (b : Block) (i : TunerId) (label : Nat) (d : Dest) : Prop := ∃ e ∈ b.table i, e.label = label ∧ d ∈ e.dests

/-- A context lists a label in a role on an input (R14). -/
def Lists (b : Block) (i : TunerId) (x : CtxId) (label : Nat) (r : Role) : Prop := Routes b i label (.ctx x r)

/-- A label stands in a service part in a role (R13). -/
def inListing (p : ServicePart) (label : Nat) (r : Role) : Prop :=
  match r with
  | .video => label = p.video
  | .audio => label = p.audioLabel
  | .captions => p.captions = some label
  | .key => p.keyLabel = some label

/-- The signal status of a context by the state of the tuner it holds (R49). -/
def signalBy (x : TunerState) : Option Signal :=
  match x with
  | .tuning => some .pending
  | .locked => some .locked
  | .retry => some .notLocked
  | .free | .absent => none

/-- Every context stands in the holder list of the tuner that its service part names, and in no other, with its signal status by that tuner's state; there
it lists the labels of its service part in their roles, and no others, and on every other input none.  Part-wide labels stand on the inputs of
LOCKED tuners alone (R1, R6, R7, R14, R15, R49). -/
def OnTheirTuners (b : Block) : Prop :=
  (∀ x t, (b.tuner t).holds (.ctx x) = true ↔ ∃ p, b.part? x = some p ∧ p.tuner = some t)
    ∧ (∀ x p, b.part? x = some p → p.signal = p.tuner.bind fun t => signalBy (b.tuner t).state)
    ∧ (∀ i x l r, Lists b i x l r ↔ ∃ p, b.part? x = some p ∧ p.tuner = some i ∧ inListing p l r)
    ∧ ∀ i l, Routes b i l .entitlement ∨ Routes b i l .guide → (b.tuner i).state = .locked

/-- Every context is a user of the slot that its service part names, and of no other; that slot is at the named generation and carries the part's tag.
A context without a tuner has no slot (R47, R52, R78, R79). -/
def OnTheirSlots (b : Block) : Prop :=
  (∀ x k, x ∈ (b.slot k).users ↔ ∃ p r, b.part? x = some p ∧ p.slot = some r ∧ r.slot = k)
    ∧ ∀ x p r, b.part? x = some p → p.slot = some r →
        (b.slot r.slot).generation = r.generation ∧ p.tuner ≠ none
          ∧ p.keyLabel ≠ none ∧ (b.slot r.slot).tag = p.keyLabel.map fun l => { muxIndex := p.muxIndex, label := l }

/-- The acquirer stands in the holder list of the tuner it names, and in no other, and names one exactly in TUNING and COLLECTING (R20). -/
def AcquirerOnItsTuner (b : Block) : Prop :=
  (∀ t, (b.tuner t).holds .acquirer = true ↔ b.guide.acquirer.tuner = some t)
    ∧ (b.guide.acquirer.tuner ≠ none ↔ b.guide.acquirer.state = .tuning ∨ b.guide.acquirer.state = .collecting)

/-- Contexts and acquirer agree with the tuners, the label tables and the key slots; before START there are no services and the acquirer is IDLE
(R20, R53, R62, R172, R200, R202). -/
def Settled (b : Block) : Prop :=
  OnTheirTuners b ∧ OnTheirSlots b ∧ AcquirerOnItsTuner b
    ∧ (b.link.device ≠ .starting → b.link.device ≠ .running → (∀ x, b.part? x = none) ∧ b.guide.acquirer.state = .idle)

/-! ## What a change may touch -/

/-- From one block to another, no pending notice has left or moved, and only notices of the named kinds and subjects are new or have a new
body (R198). -/
def PostsOnly (may : NoticeKey → Prop) (b c : Block) : Prop :=
  (b.link.notices.map (·.key)) <+: (c.link.notices.map (·.key)) ∧ ∀ n, ¬ may n.key → (n ∈ c.link.notices ↔ n ∈ b.link.notices)

/-- The purchase list has kept its records and gained OFFERED ones alone, at its end (R123). -/
def OffersOnly (b c : Block) : Prop := ∃ new, c.purchases = b.purchases ++ new ∧ ∀ p ∈ new, p.state = .offered

/-- The notices that evaluations of the outputs `l` may post: theirs, and that of an offer. -/
def evaluationNotices (l : List OutId) (k : NoticeKey) : Prop := k = .purchase ∨ ∃ o ∈ l, k = .output o ∨ k = .fault o

/-- An output whose verdict or delivery state has changed has its OUTPUT notice pending (R168, R169). -/
def OutputPosted (o : OutId) (b c : Block) : Prop :=
  (c.out o).verdict ≠ (b.out o).verdict ∨ (c.out o).delivery ≠ (b.out o).delivery → ∃ n ∈ c.link.notices, n.key = .output o

/-- What selecting the current events of the outputs `l` and evaluating their verdicts may change (R38, R158): those outputs, the notices of
theirs, and offers; a changed verdict or delivery state is posted (R168). -/
def EvaluatesOnly (l : List OutId) (b c : Block) : Prop :=
  c = { b with
        engines := { b.engines with outputs := c.engines.outputs }
        link := { b.link with notices := c.link.notices }
        purchases := c.purchases }
    ∧ (∀ o, o ∉ l → c.out o = b.out o) ∧ OffersOnly b c ∧ PostsOnly (evaluationNotices l) b c ∧ ∀ o, OutputPosted o b c

/-- An output's verdict and delivery state are those that the ordered test gives on the block as it stands, if it has a service and does not rest
(R50, R158, R160, R168). -/
def UpToDate (b : Block) (o : OutId) : Prop :=
  ∀ p, (b.out o).part = some p → (b.out o).restLevel = .awake →
    (b.out o).verdict = some (b.judge o p).2.verdict ∧ (b.out o).delivery = (b.out o).deliveryWith (b.judge o p).2

/-- Two copies that must be taken in the order of their arrival: for one context at the Output Engines from one input, or for one other block
from one input on one label (R16, R75, R174). -/
def Copy.ordered (x y : Copy) : Prop :=
  match x, y with
  | .output i a _ _ _, .output j b _ _ _ => i = j ∧ a = b
  | .key i _ _ c, .key j _ _ d | .entitlement i c, .entitlement j d | .guide i c, .guide j d => i = j ∧ c.label = d.label
  | _, _ => False

/-- A copy waits, and none that must be taken before it waits before it (R16; log entry 3). -/
def NextCopy (s : State) (x : Copy) : Prop :=
  ∃ before after, s.filter.copies = before ++ x :: after ∧ ∀ y ∈ before, ¬ y.ordered x

/-- A copy taken from the Cell Filter: the block without it among the copies on their way. -/
def copyTaken (s : State) (x : Copy) : Block := { s.toBlock with filter := { s.filter with copies := s.filter.copies.erase x } }

/-- What the host reads of a writer: its state, and the FILLING half when it is WRITING (R181, R182). -/
def Writer.shownAs (x : Writer) (v : WriterView) : Prop :=
  match x with
  | .idle => v = .idle
  | .writing h => v = .writing h
  | .waiting _ _ => v = .waiting

/-- What a context's change of service may touch beside outputs (R51 to R57, R62, R73): tuners, label tables, warm contexts, key slots, the tuning
lines, the acquirer, notices and offers.  Copies on their way, the account, the profiles, the rings, the guide tables and the settings stay.  Where
the contexts agreed with tuners, label tables and slots before, they do so after. -/
def TakesUpOnly (b c : Block) : Prop :=
  c = { b with
        link := { b.link with notices := c.link.notices }
        pool := { b.pool with tuners := c.pool.tuners }
        filter := { b.filter with tables := c.filter.tables }
        engines := { b.engines with outputs := c.engines.outputs, warms := c.engines.warms, recalls := c.engines.recalls }
        keys := { b.keys with slots := c.keys.slots, retained := c.keys.retained, queue := c.keys.queue }
        purchases := c.purchases
        guide := { b.guide with acquirer := c.guide.acquirer }
        ports := { b.ports with tuning := c.ports.tuning } }
    ∧ OffersOnly b c ∧ (TunersConsistent b → SlotsConsistent b → Settled b → Settled c)

/-- A context no longer holds the tuner and no longer uses the slot that its service part named before, and lists no label on any input (R69, R71). -/
def GivenUp (ctx : CtxId) (b c : Block) : Prop :=
  (∀ p, b.part? ctx = some p →
    (∀ t, p.tuner = some t → (c.tuner t).holds (.ctx ctx) = false) ∧ ∀ r, p.slot = some r → ctx ∉ (c.slot r.slot).users)
    ∧ (Settled b → ∀ i l r, ¬ Lists c i ctx l r)

/-- The signal status that a grant sets (R49): by the state of a shared tuner, PENDING for any other. -/
def grantedSignal (b : Block) (t : TunerId) (g : GrantStep) : Signal :=
  if g = .share ∧ (b.tuner t).state = .locked then .locked
  else if g = .share ∧ (b.tuner t).state = .retry then .notLocked
  else .pending

/-- The slot that a context's service part names. -/
def Block.slotOf (b : Block) (ctx : CtxId) : Option SlotRef := (b.part? ctx).bind (·.slot)

/-- A context has left the slot that its service part named, if it named one, and nothing else at the Key Unit has changed (R80). -/
def SlotLeft (ctx : CtxId) (b c : Block) : Prop := c.keys = b.keys.leaveRef ctx (b.slotOf ctx)

/-- The Key Unit once the holders of a tuner have been evicted: in the order of the holder list, each warm context has left its slot (R5, R63, R80). -/
def evictedKeys (b : Block) (t : TunerId) : KeyUnit :=
  (b.tuner t).holders.foldl (fun u h =>
    match h.who with
    | .ctx (.warm w) => u.leaveRef (.warm w) (b.slotOf (.warm w))
    | .ctx (.out _) | .acquirer => u) b.keys

/-- The Key Unit after a take-up by which a context is granted tuner `t`, and the slot that its new service part names: evictions first where the tuner was taken
by preemption, then the slot by the tag of the new part, then the leaving of an old slot that is another (R5, R51, R52, R79, R80). -/
def slotTakenUp (ctx : CtxId) (b : Block) (p : ServicePart) (t : TunerId) (g : GrantStep) : KeyUnit × Option SlotRef :=
  (if g = .preempt then evictedKeys b t else b.keys).follow ctx (b.slotOf ctx) (p.keyLabel.map fun l => { muxIndex := p.muxIndex, label := l })

/-- The context holds tuner `t`, granted by step `g`, on multiplex `m` and lists the labels of its part there and nowhere else.  Its slot follows the tag of its
part.  For a scrambled service it uses the slot its part names, which carries its tag, and has one wherever a slot was FREE.  An old tuner that is another is no
longer held, and an old slot that is another is left (R6, R14, R51, R52, R79, R80). -/
def Holding (ctx : CtxId) (b c : Block) (p : ServicePart) (t : TunerId) (g : GrantStep) (m : Mux) : Prop :=
  p.tuner = some t ∧ (c.tuner t).holds (.ctx ctx) = true ∧ (c.tuner t).mux = some m
    ∧ c.keys = (slotTakenUp ctx b p t g).1 ∧ p.slot = (slotTakenUp ctx b p t g).2
    ∧ (p.keyLabel = none → p.slot = none)
    ∧ (∀ r, p.slot = some r → (c.slot r.slot).generation = r.generation ∧ ctx ∈ (c.slot r.slot).users
        ∧ (c.slot r.slot).tag = p.keyLabel.map fun l => { muxIndex := p.muxIndex, label := l })
    ∧ ((∃ k, (b.slot k).state = .free) → p.keyLabel ≠ none → p.slot ≠ none)
    ∧ (∀ q k, b.part? ctx = some q → q.tuner = some k → k ≠ t → (c.tuner k).holds (.ctx ctx) = false)
    ∧ (∀ q r, b.part? ctx = some q → q.slot = some r → (∀ y, p.slot = some y → y.slot ≠ r.slot) → ctx ∉ (c.slot r.slot).users)
    ∧ (Settled b → ∀ i l r, Lists c i ctx l r ↔ i = t ∧ inListing p l r)

/-- A device state in which a stage request is in order (R200). -/
def inOrder (d : Device) (n : Nat) : Prop :=
  (n = 1 ∧ d = .unconfigured) ∨ d = .configuring n ∨ (1 ≤ n ∧ d = .configuring (n - 1))

/-! ## Facts that every step keeps -/

/-- At most one notice per kind and subject, and never more than 23 (R198). -/
def NoticesDistinct (b : Block) : Prop := (b.link.notices.map (·.key)).Nodup ∧ b.link.notices.length ≤ 23

/-- The purse lies in its range (R115). -/
def PurseBounded (b : Block) : Prop := b.account.purse ≤ 16777215

/-- At most 64 entitlements in ascending access class, one per class, and at most 8 service keys in ascending id, one per id (R99, R107,
R109, R118, R119). -/
def AccountBounded (b : Block) : Prop :=
  (b.account.entitlements.Pairwise fun x y => x.cls < y.cls) ∧ b.account.entitlements.length ≤ 64
    ∧ (b.account.serviceKeys.Pairwise fun x y => x.keyId < y.keyId) ∧ b.account.serviceKeys.length ≤ 8

/-- At most 32 purchase records, one per service and event id (R121). -/
def PurchasesDistinct (b : Block) : Prop :=
  (b.purchases.map fun p => (p.service, p.eventId)).Nodup ∧ b.purchases.length ≤ 32

/-- Of a METERING or PAID IN FULL record, charges due minus charges taken is 0 or 1, a charge that is due and not taken leaves it exhausted,
and a cap that is not 0 is not exceeded; no viewing clock passes its top (R120, R131). -/
def ChargesInStep (b : Block) : Prop :=
  ∀ p ∈ b.purchases, p.clock ≤ 4294967295 ∧ (p.state = .metering ∨ p.state = .paidInFull →
    p.taken ≤ chargesDue p.terms p.clock ∧ chargesDue p.terms p.clock ≤ p.taken + 1
      ∧ (p.taken < chargesDue p.terms p.clock → p.state = .metering ∧ p.exhausted = true)
      ∧ (p.terms.cap ≠ 0 → p.charged ≤ p.terms.cap))

/-- At most six recall records on each stack, and never the same service twice (R58). -/
def RecallsDistinct (b : Block) : Prop :=
  ∀ w, ((b.recalls w).map (·.service)).Nodup ∧ (b.recalls w).length ≤ 6

/-- At most one entry per slot in the key queue, and so at most 16 (R87). -/
def KeyQueueDistinct (b : Block) : Prop := (b.keys.queue.map (·.slot)).Nodup ∧ b.keys.queue.length ≤ 16

/-- The profiles: the counts lie in their ranges, and a profile is locked out exactly when its wrong-code count is 3 (R141, R143). -/
def ProfilesBounded (b : Block) : Prop :=
  ∀ p, (b.profile p).wrongCodes ≤ 3 ∧ (b.profile p).lockout ≤ 600 ∧ (b.profile p).spent ≤ 86400
    ∧ ((b.profile p).wrongCodes = 3 ↔ 0 < (b.profile p).lockout)

/-- The buffer memory is in its canonical form (log entry 5). -/
def BufferCanonical (b : Block) : Prop := b.ringWriter.memory.wf

/-- A half of a record field in its state (R170). -/
def HalfConsistent (x : Ring) (f : FieldSpec) (h : HalfId) : Prop :=
  match (x.half h).state with
  | .free => x.half h = Half.freed
  | .filling => x.writer = .writing h ∧ (x.half h).count < f.capacity
      ∧ ((x.half h).count = 0 ↔ (x.half h).copy = none) ∧ ((x.half h).count = 0 ↔ (x.half h).first = none)
      ∧ ((x.half h).count = 0 ↔ (x.half h).last = none)
  | .full | .draining => 1 ≤ (x.half h).count ∧ (x.half h).count ≤ f.capacity
      ∧ (x.half h).copy.isSome = true ∧ (x.half h).first.isSome = true ∧ (x.half h).last.isSome = true

/-- The rings: each half in its state, the writer writing into a FILLING half, and a drain in flight exactly for a DRAINING half; without a
field nothing is stored and nothing runs (R170, R174). -/
def RingsConsistent (b : Block) : Prop :=
  ∀ r, match (b.ring r).field with
    | none => b.ring r = Ring.cleared none
    | some f =>
      (∀ h, HalfConsistent (b.ring r) f h) ∧ 1 ≤ f.capacity
        ∧ (∀ h, (b.ring r).writer = .writing h → ((b.ring r).half h).state = .filling)
        ∧ (∀ h, ((b.ring r).half h).state = .draining ↔ (b.ring r).drain.map (·.half) = some h)
        ∧ (∀ d, (b.ring r).drain = some d → d.sent ≤ ((b.ring r).half d.half).count)

/-- Every label table: labels strictly rising, and no entry without a destination or with one twice (R13). -/
def TablesOrdered (b : Block) : Prop :=
  ∀ i, (b.table i).Pairwise (fun x y => x.label < y.label) ∧ ∀ e ∈ b.table i, e.dests ≠ [] ∧ e.dests.Nodup

/-- The part-wide labels of a table are those that the home gives: an entitlement destination stands under the entitlement label alone, and a guide
destination under the guide label alone, on a tuner on the home multiplex (R15). -/
def PartWideOfHome (b : Block) : Prop :=
  ∀ i l, (Routes b i l .entitlement → ∃ h, b.link.home = some h ∧ l = h.entitlementLabel)
    ∧ (Routes b i l .guide → ∃ h, b.link.home = some h ∧ l = h.guideLabel ∧ (b.tuner i).mux = some h.mux)

/-- The sections of a pending map stand in ascending number, each number once and none past the last (R25). -/
def MapOrdered (b : Block) : Prop :=
  ∀ m, b.guide.pendingMap = some m → (m.parts.Pairwise fun x y => x.number < y.number) ∧ ∀ x ∈ m.parts, x.number ≤ m.last

/-- The event pool: at most 2048 events, and within one service in start order, without overlap and without a repeated event id (R32). -/
def PoolOrdered (b : Block) : Prop :=
  b.guide.pool.length ≤ 2048 ∧ (∀ x ∈ b.guide.pool, 1 ≤ x.event.duration)
    ∧ b.guide.pool.Pairwise (fun x y => x.service < y.service ∨ (x.service = y.service ∧ x.event.finish ≤ y.event.start))
    ∧ b.guide.pool.Pairwise (fun x y => x.service = y.service → x.event.eventId ≠ y.event.eventId)

/-- Every output's delivery state and verdict follow its service part, rest level, containment, signal status and last result: the cases of R50
in order, and no verdict without a service or at rest (R50, R157). -/
def DeliveryFollows (b : Block) : Prop :=
  ∀ o, match (b.out o).part, (b.out o).restLevel with
    | none, level => (b.out o).delivery = .off ∧ (b.out o).verdict = none ∧ level = .awake
    | some _, .light => (b.out o).delivery = .restLight ∧ (b.out o).verdict = none
    | some _, .deep => (b.out o).delivery = .restDeep ∧ (b.out o).verdict = none
    | some p, .awake =>
      (b.out o).verdict ≠ none ∧
      if (b.out o).fault.reason.isSome = true then (b.out o).delivery = .contained
      else if p.signal = some .pending then (b.out o).delivery = .tuning
      else match (b.out o).verdict with
        | some (.held h) => (b.out o).delivery = .held h
        | _ => (b.out o).delivery = .live ∨ (b.out o).delivery = .keying

/-- The signal status of a LIVE output is LOCKED, and its service is clear or its slot LIVE (R161, R166, R167). -/
def LiveIsReady (b : Block) : Prop :=
  ∀ o p, (b.out o).delivery = .live → (b.out o).part = some p →
    p.signal = some .locked ∧ (p.keyLabel = none ∨ ∃ r, p.slot = some r ∧ (b.slot r.slot).state = .live)

/-- A warm context with a part is ready by its part: signal status LOCKED, and a clear service or a LIVE slot (R61). -/
def partReady (b : Block) (p : ServicePart) : Prop :=
  p.signal = some .locked ∧ (p.keyLabel = none ∨ ∃ r, p.slot = some r ∧ (b.slot r.slot).state = .live)

/-- The state of every warm context is that of its part: EMPTY exactly without one, COLD exactly with one that has neither tuner nor slot, READY exactly with
one that holds a tuner and is ready, and PREPARING otherwise (R61). -/
def WarmFollows (b : Block) : Prop :=
  ∀ w, match (b.warm w).part with
    | none => (b.warm w).state = .empty
    | some p =>
      (p.tuner = none → (b.warm w).state = .cold ∧ p.signal = none ∧ p.slot = none)
        ∧ (p.tuner ≠ none → partReady b p → (b.warm w).state = .ready)
        ∧ (p.tuner ≠ none → ¬ partReady b p → (b.warm w).state = .preparing)

/-- An output's current event is one of its own service (R38). -/
def CurrentMatches (b : Block) : Prop :=
  ∀ o e, (b.out o).current = some e → (b.out o).part.map (·.service) = some e.service

/-- A RUNNING device has time and an applied service map (R202). -/
def RunningHasGuide (b : Block) : Prop :=
  b.link.device = .running → b.guide.time.utc ≠ none ∧ b.guide.mapVersion ≠ none

/-- Every byte of every stored unit of a half has been written in the buffer memory (R170, R174; log entry 5). -/
def UnitsWritten (b : Block) : Prop :=
  ∀ r f h n i, (b.ring r).field = some f → n < ((b.ring r).half h).count → i < unitLength →
    b.ringWriter.memory.read (unitAddress f h n + i) ≠ none

end Sys2Proof.Machine
end

