-- ==== Sys2Proof/Certificates/Slice0/Obligations.lean ====
section
/-! DEFINITION. The statements for the provers, one proposition each, from the numbered rules of spec/. -/

open Sys2Proof Sys2Proof.Machine

/-! ## The step and the queue -/

/-- A step takes the command at the front of the queue and leaves the rest waiting. -/
def Obligations.StepRunsTheFrontCommand : Prop :=
  ∀ (c : Instr) (rest : List Instr) (s : State), step { s with pending := c :: rest } = exec c { s with pending := rest }

/-- On an empty queue one millisecond passes on the running tuner timers and nothing else changes: the model's choice, log entry 14. -/
def Claims.EmptyQueueStepCountsTimers : Prop :=
  ∀ s : State, s.pending = [] → ∃ t, step s = .next t
    ∧ t = { s with pool := { s.pool with tuners := t.pool.tuners } }
    ∧ ∀ k, t.tuner k = { s.tuner k with timer := (s.tuner k).timer.map fun x => { x with left := x.left - 1 } }

/-- No command adds to the queue of waiting commands or takes from it. -/
def Claims.CommandsLeaveTheQueue : Prop :=
  ∀ (c : Instr) (s t : State), exec c s = .next t → t.pending = s.pending

/-- Every command goes on, but for a drain that meets a byte of buffer memory which nothing has written (log entry 5). -/
def Claims.OnlyDrainsCanStop : Prop :=
  ∀ (c : Instr) (s : State), (∃ t, exec c s = .next t)
    ∨ ∃ r a, (c = .drainUnitSent r ∨ c = .drainCompletion r) ∧ s.ringWriter.memory.read a = none
        ∧ exec c s = .fault (.bufferByteUnwritten a)

/-- On an empty queue one millisecond passes on the running tuner timers alone (the model's choice, log entry 14); no command changes the queue; and every command goes
on, but for a drain that meets a byte of buffer memory which nothing has written (log entry 5). -/
def Obligations.QueueAndIdleStep : Prop :=
  Claims.EmptyQueueStepCountsTimers ∧ Claims.CommandsLeaveTheQueue ∧ Claims.OnlyDrainsCanStop

/-- While every byte of every stored unit has been written, no step stops, and it stays so. -/
def Obligations.NoStepStopsWhileUnitsAreWritten : Prop :=
  ∀ s : State, UnitsWritten s.toBlock → ∃ t, step s = .next t ∧ UnitsWritten t.toBlock

/-! ## Invariants of every step -/

/-- The notice queue keeps at most one notice per kind and subject, and so never more than 23. -/
def Claims.NoticesStayDistinct : Prop :=
  ∀ s t : State, NoticesDistinct s.toBlock → step s = .next t → NoticesDistinct t.toBlock

/-- The purse stays in its range, and the entitlement and service key tables within theirs, ascending, one entry per class and per id. -/
def Claims.AccountStaysWithinBounds : Prop :=
  ∀ s t : State, PurseBounded s.toBlock ∧ AccountBounded s.toBlock → step s = .next t →
    PurseBounded t.toBlock ∧ AccountBounded t.toBlock

/-- The purchase list keeps at most 32 records, one per service and event id. -/
def Claims.PurchasesStayDistinct : Prop :=
  ∀ s t : State, PurchasesDistinct s.toBlock → step s = .next t → PurchasesDistinct t.toBlock

/-- Charges taken stay in step with charges due on a list of distinct records, and no cap is passed. -/
def Obligations.ChargesStayInStep : Prop :=
  ∀ s t : State, PurchasesDistinct s.toBlock → ChargesInStep s.toBlock → step s = .next t → ChargesInStep t.toBlock

/-- Every recall stack keeps at most six records and never the same service twice. -/
def Claims.RecallsStayDistinct : Prop :=
  ∀ s t : State, RecallsDistinct s.toBlock → step s = .next t → RecallsDistinct t.toBlock

/-- The key queue keeps at most one entry per slot, and so at most 16. -/
def Claims.KeyQueueStaysDistinct : Prop :=
  ∀ s t : State, KeyQueueDistinct s.toBlock → step s = .next t → KeyQueueDistinct t.toBlock

/-- Notices, purchase records, recall stacks and the key queue keep their entries distinct and never hold more than their rules allow. -/
def Obligations.ListsStayDistinctAndBounded : Prop :=
  Claims.NoticesStayDistinct ∧ Claims.PurchasesStayDistinct ∧ Claims.RecallsStayDistinct ∧ Claims.KeyQueueStaysDistinct

/-- The key slots keep their users, tags and retained order in accord with their states, no two of them with one tag. -/
def Claims.SlotsStayConsistent : Prop :=
  ∀ s t : State, SlotsConsistent s.toBlock → step s = .next t → SlotsConsistent t.toBlock

/-- The tuners keep holders, multiplex and timer in accord with their states. -/
def Claims.TunersStayConsistent : Prop :=
  ∀ s t : State, TunersConsistent s.toBlock → step s = .next t → TunersConsistent t.toBlock

/-- Contexts and acquirer keep in agreement with the tuners they hold, the labels they list and the slots they use. -/
def Claims.ContextsStaySettled : Prop :=
  ∀ s t : State, SlotsConsistent s.toBlock → TunersConsistent s.toBlock → Settled s.toBlock → step s = .next t → Settled t.toBlock

/-- Tuners and key slots keep holders or users, tag or multiplex, timer and retained order in accord with their states, and in accord with the
service parts, listings and signal status of the contexts. -/
def Obligations.TunersAndSlotsStayConsistent : Prop :=
  Claims.SlotsStayConsistent ∧ Claims.TunersStayConsistent ∧ Claims.ContextsStaySettled

/-- The profiles keep their counts in range, and are locked out exactly at three wrong codes. -/
def Claims.ProfilesStayBounded : Prop :=
  ∀ s t : State, ProfilesBounded s.toBlock → step s = .next t → ProfilesBounded t.toBlock

/-- The account and the profiles keep their numbers in range; a profile is locked out exactly at three wrong codes. -/
def Obligations.AccountAndProfilesStayBounded : Prop :=
  Claims.AccountStaysWithinBounds ∧ Claims.ProfilesStayBounded

/-- The rings keep halves, writer and drain in accord, and the buffer memory its canonical form. -/
def Obligations.RingsStayConsistent : Prop :=
  ∀ s t : State, RingsConsistent s.toBlock ∧ BufferCanonical s.toBlock → step s = .next t →
    RingsConsistent t.toBlock ∧ BufferCanonical t.toBlock

/-- Every label table keeps each label once and no entry without a destination. -/
def Claims.TablesStayOrdered : Prop :=
  ∀ s t : State, TablesOrdered s.toBlock → step s = .next t → TablesOrdered t.toBlock

/-- The event pool keeps each service's events in start order, without overlap and without a repeated id, and at most 2048 in all. -/
def Claims.PoolStaysOrdered : Prop :=
  ∀ s t : State, PoolOrdered s.toBlock → step s = .next t → PoolOrdered t.toBlock

/-- The part-wide labels stay those of the home, and no label table ever has more than 64 entries. -/
def Claims.TablesStayBounded : Prop :=
  ∀ s t : State, TunersConsistent s.toBlock → SlotsConsistent s.toBlock → Settled s.toBlock → TablesOrdered s.toBlock → PartWideOfHome s.toBlock →
    step s = .next t → PartWideOfHome t.toBlock ∧ ∀ i, (t.table i).length ≤ 64

/-- The sections of a pending map stay in ascending number, each number once and none past the last. -/
def Claims.PendingMapsStayOrdered : Prop :=
  ∀ s t : State, MapOrdered s.toBlock → step s = .next t → MapOrdered t.toBlock

/-- Label tables, the event pool and a pending map keep their order and their distinctness, and their bounds: 64 entries, 2048 events, and no section past
the last. -/
def Obligations.TablesAndPoolStayOrdered : Prop :=
  Claims.TablesStayOrdered ∧ Claims.TablesStayBounded ∧ Claims.PoolStaysOrdered ∧ Claims.PendingMapsStayOrdered

/-- Every output's delivery state keeps following its service part, rest level, containment, signal status and verdict. -/
def Claims.DeliveryKeepsFollowing : Prop :=
  ∀ s t : State, DeliveryFollows s.toBlock → step s = .next t → DeliveryFollows t.toBlock

/-- Every output's current event stays one of its own service. -/
def Claims.CurrentEventsStayOfTheService : Prop :=
  ∀ s t : State, CurrentMatches s.toBlock → step s = .next t → CurrentMatches t.toBlock

/-- The signal status of a LIVE output stays LOCKED, and its service clear or its slot LIVE. -/
def Claims.LiveOutputsStayReady : Prop :=
  ∀ s t : State, TunersConsistent s.toBlock → SlotsConsistent s.toBlock → Settled s.toBlock → DeliveryFollows s.toBlock → LiveIsReady s.toBlock →
    step s = .next t → LiveIsReady t.toBlock

/-- Every warm context's state stays that of its service part: EMPTY without one, COLD without a tuner, READY with signal and keys, else PREPARING. -/
def Claims.WarmContextsKeepFollowing : Prop :=
  ∀ s t : State, TunersConsistent s.toBlock → SlotsConsistent s.toBlock → Settled s.toBlock → WarmFollows s.toBlock →
    step s = .next t → WarmFollows t.toBlock

/-- Whatever the command, an output whose verdict or delivery state it changes has an OUTPUT notice pending that gives the new ones (R168, R169), and a warm
context whose state or service it changes has a WARM notice that gives the new ones (R64).  The reset line and RESTART alone, which empty the notice queue,
post none. -/
def Claims.ChangesArePosted : Prop :=
  ∀ (c : Instr) (s t : State), c ≠ .resetLine → (∀ h, c ≠ .restart h) → exec c s = .next t →
    (∀ o, (t.out o).verdict ≠ (s.out o).verdict ∨ (t.out o).delivery ≠ (s.out o).delivery → ∃ n ∈ t.link.notices, n.key = .output o
      ∧ ∃ service event mark contained reason,
          n.body = .output o (t.out o).delivery (t.out o).verdict service event mark contained reason)
    ∧ ∀ w, let service := fun x : Warm => x.part.map (·.service)
        (t.warm w).state ≠ (s.warm w).state ∨ service (t.warm w) ≠ service (s.warm w) → ∃ n ∈ t.link.notices, n.key = .warm w
          ∧ ∃ tuner slot, n.body = .warm w (t.warm w).state (service (t.warm w)) tuner slot

/-- Outputs keep delivery state and verdict in accord with what they follow from, current events of their own service, and where they are LIVE their signal
and their keys; warm contexts keep the state of their part; and every change of these is posted. -/
def Obligations.OutputsStayConsistent : Prop :=
  Claims.DeliveryKeepsFollowing ∧ Claims.CurrentEventsStayOfTheService ∧ Claims.LiveOutputsStayReady ∧ Claims.WarmContextsKeepFollowing
    ∧ Claims.ChangesArePosted

/-- Once RUNNING, the device stays so, with time set and a map applied, through every command but the reset line; time once set and a map once
applied stay in every device state, and the revision number and the unit address never change. -/
def Obligations.RunningLastsUntilTheResetLine : Prop :=
  (∀ s t : State, RunningHasGuide s.toBlock → step s = .next t → RunningHasGuide t.toBlock)
    ∧ ∀ (c : Instr) (s t : State), exec c s = .next t →
        (c ≠ .resetLine →
          (s.link.device = .running → t.link.device = .running)
            ∧ (s.guide.time.utc ≠ none → t.guide.time.utc ≠ none) ∧ (s.guide.mapVersion ≠ none → t.guide.mapVersion ≠ none))
          ∧ t.link.revision = s.link.revision ∧ t.account.unitAddress = s.account.unitAddress

/-- Every invariant above holds right after reset. -/
def Obligations.ResetMeetsTheInvariants : Prop :=
  let b := State.reset.toBlock
  NoticesDistinct b ∧ PurseBounded b ∧ AccountBounded b ∧ PurchasesDistinct b ∧ ChargesInStep b ∧ RecallsDistinct b
    ∧ KeyQueueDistinct b ∧ SlotsConsistent b ∧ TunersConsistent b ∧ ProfilesBounded b ∧ RingsConsistent b ∧ BufferCanonical b
    ∧ TablesOrdered b ∧ PoolOrdered b ∧ DeliveryFollows b ∧ CurrentMatches b ∧ RunningHasGuide b ∧ UnitsWritten b ∧ Settled b ∧ MapOrdered b
    ∧ PartWideOfHome b ∧ LiveIsReady b ∧ WarmFollows b

/-! ## Reset, RESTART and start-up -/

/-- What the rules give for reset, block by block: the device UNCONFIGURED with nothing pending, eight FREE tuners with one HALT ORDER sent,
outputs OFF, key slots FREE, the account, the purchase list and the profiles in factory state, nothing stored and nothing known.  The unit
address and the revision number are the model's choice (log entry 6), and so is that right after power-on each tuner has order number 1 and its
HALT ORDER 1 sent (log entry 26), and that the select period which goes on has carried no request (log entry 39). -/
def Obligations.ResetStateIsTheRules : Prop :=
  let b := State.reset.toBlock
  State.reset.pending = []
    ∧ b.link = { device := .unconfigured, slot := none, clocking := none, clockingSlot := false, periodSpent := false,
                 notices := [], home := none, revision := 1 }
    ∧ b.pool.lockTimeout = 1500
    ∧ (∀ t, b.tuner t = { state := .free, mux := none, order := 1, holders := [], timer := none } ∧ b.table t = []
        ∧ b.ports.tuning.get t = [.halt 1])
    ∧ (∀ o, b.out o = Output.afterReset)
    ∧ (∀ p, b.warm p = { state := .empty, part := none } ∧ b.recalls p = [] ∧ b.boundProfile p = 0)
    ∧ spanLength b.engines.deepThreshold = 0 ∧ spanLength b.engines.deepen = 0
    ∧ (∀ k, b.slot k = KeySlot.freed 0) ∧ b.keys.queue = [] ∧ b.keys.engine = none ∧ b.keys.retention = false
    ∧ b.account = { entitlements := [], serviceKeys := [], purse := 0, sequence := none, group := none, unitAddress := 0, integrityFailures := 0 }
    ∧ b.purchases = []
    ∧ b.guide.acquirer = { state := .idle, tuner := none } ∧ b.guide.mapVersion = none ∧ b.guide.pendingMap = none ∧ b.guide.muxes = []
    ∧ b.guide.services = [] ∧ b.guide.pool = [] ∧ b.guide.time = { utc := none, offset := 0, change := none }
    ∧ b.profile 0 = Profile.factory true 65535 ∧ (∀ p, p ≠ 0 → b.profile p = Profile.factory false 0)
    ∧ (∀ r, b.ring r = Ring.cleared none) ∧ b.ringWriter.stamp = 0

/-- The reset line leaves every block in its reset state, keeps the non-volatile records, the key slot generations and the buffer memory, sends
a HALT ORDER with the next order number on all eight tuning lines, and the abort mark of any drain in flight.  The model's choices are that the
copies that wait are dropped (log entry 3), that the two rest policy spans of length 0 have value 0 and scale 0 (log entry 12), that the next
arrival number is 1 (log entry 25), that the order numbers, generations and buffer memory are kept also where the event stands for power applied
again (log entry 38), and that the select period which goes on counts as one that has carried no request (log entry 39). -/
def Obligations.ResetLineResetsEveryBlock : Prop :=
  ∀ s : State, ∃ c, Makes .resetLine s c
    ∧ c = { Block.reset with
            link := { Block.reset.link with revision := s.link.revision }
            pool := { Block.reset.pool with tuners := c.pool.tuners }
            engines := { Block.reset.engines with bound := s.engines.bound }
            keys := { Block.reset.keys with slots := c.keys.slots }
            account := { s.account with integrityFailures := 0 }
            purchases := s.purchases
            profiles := s.profiles
            ringWriter := { Block.reset.ringWriter with memory := s.ringWriter.memory }
            ports := c.ports }
    ∧ (∀ t, c.tuner t = { state := .free, mux := none, order := ((s.tuner t).order + 1) % 65536, holders := [], timer := none }
        ∧ c.ports.tuning.get t = s.ports.tuning.get t ++ [.halt (((s.tuner t).order + 1) % 65536)])
    ∧ (∀ k, c.slot k = KeySlot.freed (s.slot k).generation)
    ∧ c.ports.presentation = s.ports.presentation
    ∧ ∀ r, c.ports.record.get r = s.ports.record.get r
        ++ match (s.ring r).drain with
           | some d => [.abortMark r d.half d.sent]
           | none => []

/-- RESTART answers ACK in every device state and takes every block to its RESTART state: outputs OFF with their fault policies kept, every
tuner in use halted and FREE, slots FREE, halves FREE; settings, guide tables, time, account, purchases and profiles are kept.  The notice queue is
emptied; an acquirer that was not IDLE then asks for the home multiplex and posts the one GUIDE notice.  The model's choices are that the copies that
wait are dropped (log entry 3), that the GUIDE notice is posted whatever state the acquirer was in (log entry 31), and that the next arrival number
is 1 again (log entry 25). -/
def Obligations.RestartKeepsTheSettings : Prop :=
  ∀ (h : Head) (s : State), Heard h s → ∃ c, Acks (.restart h) s c
    ∧ c = { s.toBlock with
            link := { s.link with notices := c.link.notices }
            pool := { s.pool with tuners := c.pool.tuners }
            filter := { tables := Vector.replicate 8 [], copies := [] }
            engines := { s.engines with
              outputs := c.engines.outputs, warms := Vector.replicate 4 Warm.emptied, recalls := Vector.replicate 4 [] }
            keys := { slots := c.keys.slots, retained := [], queue := [], nextArrival := 1, engine := none, retention := s.keys.retention }
            guide := { s.guide with assemblies := Vector.replicate 8 Assembly.cleared, acquirer := c.guide.acquirer }
            ringWriter := { s.ringWriter with rings := c.ringWriter.rings }
            ports := c.ports }
    ∧ (∀ o, c.out o = { Output.afterReset with
          fault := { FaultBlock.afterReset with
            mask := (s.out o).fault.mask, contain := (s.out o).fault.contain, enable := (s.out o).fault.enable } })
    ∧ (∀ k, c.slot k = KeySlot.freed (s.slot k).generation)
    ∧ (∀ r, c.ring r = Ring.cleared (s.ring r).field)
    ∧ (∀ t, s.guide.acquirer.state = .idle ∨ c.guide.acquirer.tuner ≠ some t →
        c.tuner t = if (s.tuner t).inUse then
            { state := .free, mux := none, order := ((s.tuner t).order + 1) % 65536, holders := [], timer := none }
          else s.tuner t)
    ∧ (∀ t, s.guide.acquirer.state = .idle ∨ c.guide.acquirer.tuner ≠ some t →
        c.ports.tuning.get t = s.ports.tuning.get t
          ++ if (s.tuner t).inUse then [.halt (((s.tuner t).order + 1) % 65536)] else [])
    ∧ c.ports.presentation = s.ports.presentation
    ∧ (∀ r, c.ports.record.get r = s.ports.record.get r
        ++ match (s.ring r).drain with
           | some d => [.abortMark r d.half d.sent]
           | none => [])
    ∧ (s.guide.acquirer.state = .idle → c.guide.acquirer = s.guide.acquirer ∧ c.link.notices = [])
    ∧ (s.guide.acquirer.state ≠ .idle → ∀ t, c.guide.acquirer.tuner = some t →
        ∃ home, s.link.home = some home ∧ (c.tuner t).mux = some home.mux ∧ (c.tuner t).state = .tuning
          ∧ (c.tuner t).holders = [{ who := .acquirer, cls := .guide }])
    ∧ (s.guide.acquirer.state ≠ .idle → (c.guide.acquirer.tuner ≠ none ↔ s.link.home ≠ none ∧ ∃ t, (s.tuner t).state ≠ .absent))
    ∧ (s.guide.acquirer.state ≠ .idle → c.link.notices.map (·.key) = [.guide]
        ∧ c.guide.acquirer.state = if c.guide.acquirer.tuner.isSome then .tuning else .waitTuner)

/-- A stage request is refused WRONG STATE in STARTING and RUNNING, and ORDER where it is neither the next stage nor the current one. -/
def Claims.StagesAreTakenInOrder : Prop :=
  ∀ (c : Instr) (n : Nat) (s : State), stageNumber c = some n → wellSized c → s.link.periodSpent = false →
    (s.link.device = .starting ∨ s.link.device = .running → Refuses c s .wrongState)
      ∧ (s.link.device ≠ .starting → s.link.device ≠ .running → ¬ inOrder s.link.device n → Refuses c s .order)

/-- SET LINEUP and SET HOME in order: taken with their values in range, and refused BAD ARGUMENT with everything as it was otherwise. -/
def Claims.LineupAndHomeAreTaken : Prop :=
  (∀ (h : Head) (mask : BitVec 8) (timeout : Nat) (s : State), Heard h s → inOrder s.link.device 1 →
    if mask ≠ 0 ∧ 100 ≤ timeout ∧ timeout ≤ 5000 ∧ timeout % 100 = 0 then
      ∃ c, Acks (.setLineup h mask timeout) s c
        ∧ c = { s.toBlock with
                link := { s.link with device := .configuring 1 }
                pool := { tuners := c.pool.tuners, lockTimeout := timeout } }
        ∧ ∀ t, c.tuner t = { state := if mask.getLsbD t.val then .free else .absent, mux := none, order := (s.tuner t).order,
                             holders := [], timer := none }
    else Refuses (.setLineup h mask timeout) s .badArgument)
  ∧ ∀ (h : Head) (freq : Nat) (modulation : Option Modulation) (guide entitlement : Nat) (s : State), Heard h s →
      inOrder s.link.device 2 →
      (∀ m, modulation = some m → 50000 ≤ freq ∧ freq ≤ 1002000 ∧ guide ≤ 8190 ∧ entitlement ≤ 8190 ∧ guide ≠ entitlement →
        Acks (.setHome h freq modulation guide entitlement) s
          { s.toBlock with link := { s.link with
              device := .configuring 2
              home := some { mux := { freq := freq, modulation := m }, guideLabel := guide, entitlementLabel := entitlement } } })
      ∧ (modulation = none ∨ ¬ (50000 ≤ freq ∧ freq ≤ 1002000 ∧ guide ≤ 8190 ∧ entitlement ≤ 8190 ∧ guide ≠ entitlement) →
          Refuses (.setHome h freq modulation guide entitlement) s .badArgument)

/-- The fields of R0 and R1 lie in the buffer memory: base and capacity in range and multiple, and an end within its 512 MiB (R171). -/
def fieldInMemory (f : FieldSpec) : Prop :=
  f.base ≤ 8191 ∧ 1024 ≤ f.capacity ∧ f.capacity ≤ 524288 ∧ f.capacity % 1024 = 0
    ∧ f.base * 65536 + 2 * f.capacity * 192 ≤ 536870912

/-- No byte belongs to two fields (R171). -/
def fieldsApart (r0 r1 : Option FieldSpec) : Prop :=
  ∀ f g, r0 = some f → r1 = some g →
    f.base * 65536 + 2 * f.capacity * 192 ≤ g.base * 65536 ∨ g.base * 65536 + 2 * g.capacity * 192 ≤ f.base * 65536

/-- SET FIELDS and SET POLICY in order: fields outside the memory are refused BAD ARGUMENT and overlapping ones OVERLAP; every other SET FIELDS
and every SET POLICY is taken, and replaces its stage's settings whole. -/
def Claims.FieldsAndPolicyAreTaken : Prop :=
  (∀ (h : Head) (r0 r1 : Option FieldSpec) (s : State), Heard h s → inOrder s.link.device 3 →
    let fits := ∀ f, r0 = some f ∨ r1 = some f → fieldInMemory f
    (¬ fits → Refuses (.setFields h r0 r1) s .badArgument)
      ∧ (fits → ¬ fieldsApart r0 r1 → Refuses (.setFields h r0 r1) s .overlap)
      ∧ (fits → fieldsApart r0 r1 → Acks (.setFields h r0 r1) s
          { s.toBlock with
            link := { s.link with device := .configuring 3 }
            ringWriter := { s.ringWriter with rings := #v[Ring.cleared r0, Ring.cleared r1] } }))
  ∧ ∀ (h : Head) (deepThreshold deepen : Span) (retention : Bool) (s : State), Heard h s → inOrder s.link.device 4 →
      Acks (.setPolicy h deepThreshold deepen retention) s
        { s.toBlock with
          link := { s.link with device := .configuring 4 }
          engines := { s.engines with deepThreshold := deepThreshold, deepen := deepen }
          keys := { s.keys with retention := retention } }

/-- The four stage requests: refused out of order and in STARTING and RUNNING; in order, each is taken with its values in range and refused otherwise. -/
def Obligations.StartUpStagesAreTaken : Prop :=
  Claims.StagesAreTakenInOrder ∧ Claims.LineupAndHomeAreTaken ∧ Claims.FieldsAndPolicyAreTaken

/-- START from stage 4 with no tuner in use: the device is STARTING, or RUNNING where time and a map are there already; the acquirer takes the
lowest-numbered FREE tuner for the home multiplex, or waits, and a GUIDE notice is posted.  In STARTING and RUNNING it changes nothing; before
stage 4 it is refused ORDER. -/
def Obligations.StartBeginsTheAcquirer : Prop :=
  ∀ (h : Head) (s : State), Heard h s →
    (s.link.device = .starting ∨ s.link.device = .running → AcksIdly (.start h) s)
    ∧ (s.link.device = .unconfigured ∨ (∃ n, n ≠ 4 ∧ s.link.device = .configuring n) → Refuses (.start h) s .order)
    ∧ (s.link.device = .configuring 4 → (∀ t, (s.tuner t).state = .free ∨ (s.tuner t).state = .absent) →
        s.guide.acquirer = { state := .idle, tuner := none } → ∀ home, s.link.home = some home →
        ∃ c, Acks (.start h) s c
          ∧ c = { s.toBlock with
                  link := { s.link with device := c.link.device, notices := c.link.notices }
                  pool := { s.pool with tuners := c.pool.tuners }
                  guide := { s.guide with acquirer := c.guide.acquirer }
                  ports := { s.ports with tuning := c.ports.tuning } }
          ∧ c.link.device = (if s.guide.time.utc ≠ none ∧ s.guide.mapVersion ≠ none then .running else .starting)
          ∧ PostsOnly (fun k => k = .guide ∨ k = .started) s.toBlock c
          ∧ (∃ n ∈ c.link.notices, n.key = .guide)
          ∧ ((∃ n ∈ c.link.notices, n.key = .started) ↔ c.link.device = .running ∨ ∃ n ∈ s.link.notices, n.key = .started)
          ∧ ((∀ t, (s.tuner t).state = .absent) → c.guide.acquirer = { state := .waitTuner, tuner := none } ∧ c.pool = s.pool)
          ∧ ∀ t, (s.tuner t).state = .free → (∀ k, k < t → (s.tuner k).state = .absent) →
              c.guide.acquirer = { state := .tuning, tuner := some t }
              ∧ c.tuner t = { state := .tuning, mux := some home.mux, order := ((s.tuner t).order + 1) % 65536,
                              holders := [{ who := .acquirer, cls := .guide }], timer := some { kind := .lock, left := s.pool.lockTimeout } }
              ∧ c.ports.tuning.get t = s.ports.tuning.get t ++ [.tune (((s.tuner t).order + 1) % 65536) home.mux]
              ∧ ∀ k, k ≠ t → c.tuner k = s.tuner k ∧ c.ports.tuning.get k = s.ports.tuning.get k)

/-! ## The message link -/

/-- A frame with a body of at most 512 bytes reads back as its kind, tag and body, whatever follows its check byte in the period. -/
def Obligations.FramesReadBack : Prop :=
  ∀ (kind tag : Byte) (body extra : List Byte), body.length ≤ 512 →
    readPeriod (frameBytes kind tag body ++ extra) = .request kind tag body

/-- What makes a frame bad, each case of the rule, and a period that carries no request; every bad frame that is the first thing its select
period carries is answered REFUSED BAD FRAME with tag 0, and a later one is ignored.  Bytes that carry no bad frame are not this event and change
nothing (log entry 10). -/
def Claims.BadFramesAreRefused : Prop :=
  (∀ first rest, first ≠ 0 → first ≠ 0xC3 → readPeriod (first :: rest) = .bad .wrongStart)
  ∧ (∀ rest, readPeriod (0 :: rest) = .noRequest)
  ∧ (∀ (lo hi : Byte) rest, 512 < lo.toNat + 256 * hi.toNat → readPeriod (0xC3 :: lo :: hi :: rest) = .bad .tooLong)
  ∧ (∀ kind tag body n, body.length ≤ 512 → 1 ≤ n → n < (frameBytes kind tag body).length →
      readPeriod ((frameBytes kind tag body).take n) = .bad .truncated)
  ∧ (∀ kind tag body check extra, body.length ≤ 512 → (frameBytes kind tag body).getLast? ≠ some check →
      readPeriod ((frameBytes kind tag body).dropLast ++ check :: extra) = .bad .checkMismatch)
  ∧ ∀ (period : List Byte) (s : State),
      (∀ r, readPeriod period = .bad r → s.link.periodSpent = false → Makes (.badFrame period) s (s.toBlock.reply 0 (.refused .badFrame)))
      ∧ (s.link.periodSpent = true ∨ (∀ r, readPeriod period ≠ .bad r) → Makes (.badFrame period) s s.toBlock)

/-- The manual's own frames: NEXT NOTICE with tag 05h, its empty answer and the answer to a bad frame; and two items by the manual's layouts: a TUNE ORDER,
and the half header of the worked sequence of a slow drain. -/
def Claims.FramesOfTheManual : Prop :=
  frameBytes 0x10 0x05 [] = [0xC3, 0x00, 0x00, 0x10, 0x05, 0xEB]
    ∧ readPeriod [0xC3, 0x00, 0x00, 0x10, 0x05, 0xEB] = .request 0x10 0x05 []
    ∧ ({ tag := 0x05, body := .data .noNotice } : Reply).bytes? = some [0xC3, 0x01, 0x00, 0x81, 0x05, 0x00, 0x79]
    ∧ ({ tag := 0, body := .refused .badFrame } : Reply).bytes? = some [0xC3, 0x01, 0x00, 0x82, 0x00, 0x01, 0x7C]
    ∧ (Order.tune 0x0112 { freq := 330000, modulation := .q256 }).bytes = [0x01, 0x12, 0x01, 0x10, 0x09, 0x05, 0x00, 0x01]
    ∧ (RecordItem.header 0 0 .once 1024 5002 5017).bytes
        = [0xA5, 0x00, 0x00, 0x01, 0x00, 0x04, 0x00, 0x00, 0x8A, 0x13, 0x00, 0x00, 0x99, 0x13, 0x00, 0x00]

/-- What makes a frame bad and how a bad frame is answered, and frames and items of the manual byte for byte. -/
def Obligations.BadFramesAndTheManualsFrames : Prop :=
  Claims.BadFramesAreRefused ∧ Claims.FramesOfTheManual

/-- Every request has a kind of its own, which no other request has.  The first that a select period carries is answered by exactly one reply, with its tag,
which is not the frame being clocked out; a kind that names no request is answered UNKNOWN REQUEST.  A kind that names one is not that event and changes
nothing (log entry 10). -/
def Claims.EveryRequestIsAnsweredOnce : Prop :=
  (∀ (c : Instr) (h : Head) (s : State), requestHead c = some h → s.link.periodSpent = false →
    ∃ t body, exec c s = .next t ∧ t.link.slot = some { tag := h.tag, body := body } ∧ t.link.clockingSlot = false
      ∧ t.link.clocking = s.link.clocking)
  ∧ (∀ c, (requestHead c).isSome = true ↔ (requestKind c).isSome = true)
  ∧ (∀ k, k ∈ requestKinds ↔ ∃ c, requestKind c = some k)
  ∧ requestKinds.Nodup ∧ (∀ c d : Instr, requestKind c ≠ none → requestKind c = requestKind d → c.ctorIdx = d.ctorIdx)
  ∧ ∀ (tag kind : Byte) (s : State),
      (kind ∉ requestKinds → s.link.periodSpent = false →
        Makes (.unknownRequest tag kind) s (s.toBlock.reply tag (.refused .unknownRequest)))
      ∧ (kind ∈ requestKinds → Makes (.unknownRequest tag kind) s s.toBlock)

/-- A select period carries one request or one bad frame (R195): whatever of these it carries first leaves it spent, everything of these that follows
changes nothing at all, and a new period, which SELECT PERIOD START begins, can carry one again.  The reset line leaves a period that can carry one,
the model's choice (log entry 39), and nothing else changes what the period has carried. -/
def Claims.PeriodsCarryOneRequest : Prop :=
  ∀ (c : Instr) (s : State),
    let carried := (requestHead c).isSome = true ∨ (∃ period r, c = .badFrame period ∧ readPeriod period = .bad r)
      ∨ ∃ tag kind, c = .unknownRequest tag kind ∧ kind ∉ requestKinds
    (carried → s.link.periodSpent = true → exec c s = .next s)
    ∧ (carried → s.link.periodSpent = false → ∃ t, exec c s = .next t ∧ t.link.periodSpent = true)
    ∧ ((c = .selectPeriodStart ∨ c = .resetLine) → ∃ t, exec c s = .next t ∧ t.link.periodSpent = false)
    ∧ (¬ carried → c ≠ .selectPeriodStart → c ≠ .resetLine → ∀ t, exec c s = .next t → t.link.periodSpent = s.link.periodSpent)

/-- A request whose body has not the length of its kind, the first that its period carries, is refused BAD ARGUMENT before any other check, and changes
nothing. -/
def Claims.WrongLengthIsABadArgument : Prop :=
  ∀ (c : Instr) (h : Head) (s : State), requestHead c = some h → h.bodyFits = false → s.link.periodSpent = false →
    Refuses c s .badArgument

/-- The one request of a select period is answered by exactly one reply with its tag, and what follows it is ignored to the period's end; a request of the
wrong length is refused BAD ARGUMENT before any other check. -/
def Obligations.EveryRequestIsAnsweredOnce : Prop :=
  Claims.EveryRequestIsAnsweredOnce ∧ Claims.PeriodsCarryOneRequest ∧ Claims.WrongLengthIsABadArgument

/-- A refused request, the first that its period carries, changes nothing but what its reply does at the link, except that WRONG CODE counts and that a WARM refused NO TUNER empties its warm
context. -/
def Obligations.RefusedRequestsChangeNothing : Prop :=
  ∀ (c : Instr) (h : Head) (s t : State) (code : RefusalCode), requestHead c = some h → s.link.periodSpent = false → exec c s = .next t →
    t.link.slot = some { tag := h.tag, body := .refused code } → code ≠ .wrongCode →
    (∀ output service, c = .warm h output service → code ≠ .noTuner) → t = s.answered h (.refused code)

/-- A select period has carried no request as it begins, and clocks out the frame that the slot then holds.  Reading its last byte empties the slot, unless a reply to a request of
the same period has replaced it, which stays. -/
def Obligations.RepliesAreReadInTheirPeriod : Prop :=
  (∀ s : State, Makes .selectPeriodStart s
      { s.toBlock with link := { s.link with clocking := s.link.slot, clockingSlot := s.link.slot.isSome, periodSpent := false } })
  ∧ (∀ s : State, Makes .replyRead s
      { s.toBlock with link := { s.link with
          clocking := none
          clockingSlot := false
          slot := if s.link.clocking ≠ none ∧ s.link.clockingSlot = true then none else s.link.slot } })
  ∧ (∀ s t u : State, exec .selectPeriodStart s = .next t → exec .replyRead t = .next u → u.link.slot = none)
  ∧ ∀ (c : Instr) (h : Head) (s t u v : State), requestHead c = some h → exec .selectPeriodStart s = .next t → exec c t = .next u →
      exec .replyRead u = .next v → v.link.slot = u.link.slot ∧ v.link.slot.map (·.tag) = some h.tag

/-- A posting takes the place of a pending notice of its kind and subject, or goes to the end, and the queue keeps at most one notice of each, so never
more than 23; every other notice stays as it is, and attention is asserted afterwards.  Each kind has its code of the table, with the subject's number.  NEXT NOTICE takes the
oldest notice, or answers NONE; attention is asserted exactly while a notice is pending. -/
def Obligations.NoticesAreMergedAndTaken : Prop :=
  (∀ (b : Block) (key : NoticeKey) (body : NoticeBody),
    ({ key := key, body := body } : Notice) ∈ (b.post key body).link.notices
      ∧ (∀ n, n.key ≠ key → (n ∈ (b.post key body).link.notices ↔ n ∈ b.link.notices))
      ∧ ((b.post key body).link.notices.map (·.key)
          = if key ∈ b.link.notices.map (·.key) then b.link.notices.map (·.key) else b.link.notices.map (·.key) ++ [key])
      ∧ (b.post key body).link.attention = true
      ∧ ((b.link.notices.map (·.key)).Nodup → ((b.post key body).link.notices.map (·.key)).Nodup ∧ (b.post key body).link.notices.length ≤ 23)
      ∧ b.post key body = { b with link := { b.link with notices := (b.post key body).link.notices } })
  ∧ (∀ b : Block, b.link.attention = true ↔ b.link.notices ≠ [])
  ∧ (∀ o, (NoticeKey.output o).codes = (0x01, o.val)) ∧ (∀ w, (NoticeKey.warm w).codes = (0x02, w.val))
  ∧ (∀ r, (NoticeKey.ring r).codes = (0x03, r.val)) ∧ (∀ o, (NoticeKey.fault o).codes = (0x04, o.val))
  ∧ NoticeKey.guide.codes = (0x05, 0) ∧ NoticeKey.time.codes = (0x06, 0) ∧ NoticeKey.account.codes = (0x07, 0)
  ∧ NoticeKey.purchase.codes = (0x08, 0) ∧ NoticeKey.started.codes = (0x09, 0)
  ∧ (∀ code subject, (∃ key : NoticeKey, key.codes = (code, subject)) ↔
      ((code = 0x01 ∨ code = 0x04) ∧ subject < 6) ∨ (code = 0x02 ∧ subject < 4) ∨ (code = 0x03 ∧ subject < 2)
        ∨ ((code = 0x05 ∨ code = 0x06 ∨ code = 0x07 ∨ code = 0x08 ∨ code = 0x09) ∧ subject = 0))
  ∧ (∀ x y : NoticeKey, x.codes = y.codes → x = y)
  ∧ (∀ tag : Byte, ({ tag := tag, body := .data .noNotice } : Reply).bytes? = some (frameBytes 0x81 tag [0x00]))
  ∧ ∀ (h : Head) (s : State), Heard h s →
      requestKind (.nextNotice h) = some 0x10
      ∧ (s.link.notices = [] → Returns (.nextNotice h) s .noNotice)
      ∧ ∀ n rest, s.link.notices = n :: rest →
          exec (.nextNotice h) s = .next (s.after h (.data (.notice n)) { s.toBlock with link := { s.link with notices := rest } })

/-- IDENTIFY and DEVICE STATUS answer in every device state and change nothing. -/
def Claims.IdentityAndDeviceStatus : Prop :=
  ∀ (h : Head) (s : State), Heard h s →
    requestKind (.identify h) = some 0x11 ∧ requestKind (.deviceStatus h) = some 0x13
    ∧ Returns (.identify h) s (.identity 0x0B4E 0x4860 s.link.revision s.account.unitAddress)
    ∧ ∃ timeSet mapApplied attention,
        Returns (.deviceStatus h) s (.deviceStatus s.link.device timeSet mapApplied s.link.notices.length attention)
          ∧ (timeSet = true ↔ s.guide.time.utc ≠ none) ∧ (mapApplied = true ↔ s.guide.mapVersion ≠ none)
          ∧ (attention = true ↔ s.link.notices ≠ [])

/-! ## Queries -/

/-- TUNERS gives all eight tuner records, T0 first, and changes nothing. -/
def Claims.TunersGivesTheRecords : Prop :=
  ∀ (h : Head) (s : State), Heard h s → requestKind (.tuners h) = some 0x30 ∧ ∃ l, Returns (.tuners h) s (.tuners l)
    ∧ l.length = 8 ∧ ∀ k : TunerId, l[k.val]? = some (s.tuner k)

/-- FILTER gives the whole label table of an input, in ascending label order; a number over 7 is refused BAD ARGUMENT. -/
def Claims.FilterGivesTheTable : Prop :=
  ∀ (h : Head) (input : Nat) (s : State), Heard h s → TablesOrdered s.toBlock → requestKind (.filter h input) = some 0x31
    ∧ (∀ i : TunerId, input = i.val → ∃ l, Returns (.filter h input) s (.filter l) ∧ l.Perm (s.table i)
        ∧ l.Pairwise (fun x y => x.label < y.label))
    ∧ (7 < input → Refuses (.filter h input) s .badArgument)

/-- KEY SLOTS gives the sixteen slots, the queue in arrival order, the engine and the retention setting; of keys it gives only whether they are
held.  The place of a RETAINED slot counts from 0, the model's choice (log entry 30). -/
def Claims.KeySlotsGivesSlotsQueueAndEngine : Prop :=
  ∀ (h : Head) (s : State), Heard h s → requestKind (.keySlots h) = some 0x32 ∧ ∃ slots queue engine,
    Returns (.keySlots h) s (.keySlots slots queue engine s.keys.retention)
    ∧ slots.length = 16
    ∧ (∀ k : SlotId, ∃ v, slots[k.val]? = some v ∧ v.state = (s.slot k).state ∧ v.tag = (s.slot k).tag
        ∧ v.generation = (s.slot k).generation ∧ v.users = (s.slot k).users ∧ (v.hasEven = true ↔ (s.slot k).evenKey ≠ none)
        ∧ (v.hasOdd = true ↔ (s.slot k).oddKey ≠ none) ∧ v.parity = (s.slot k).parity ∧ v.lastVersion = (s.slot k).lastVersion
        ∧ v.retain = (s.slot k).retain ∧ v.mark = (s.slot k).mark
        ∧ (∀ n, s.keys.retained.Nodup → (v.retainedPlace = some n ↔ s.keys.retained[n]? = some k)))
    ∧ queue = s.keys.queue.map (fun e => ⟨e.slot, e.generation, e.message.version, e.message.serviceKeyId, e.message.accessClass,
        e.message.event⟩)
    ∧ engine = s.keys.engine.map (fun w => ⟨w.slot, w.generation, w.message.version⟩)

/-- IDENTIFY, DEVICE STATUS, TUNERS, FILTER and KEY SLOTS give what their blocks hold, in every device state, and change nothing.  Retained places
count from 0 by the model's choice (log entry 30). -/
def Obligations.IdentityTunersFilterAndKeysAnswer : Prop :=
  Claims.IdentityAndDeviceStatus ∧ Claims.TunersGivesTheRecords ∧ Claims.FilterGivesTheTable ∧ Claims.KeySlotsGivesSlotsQueueAndEngine

/-- No reply shows a control key, a wrapped key, a service key or a code: what KEY SLOTS, SERVICE KEY LIST and GET PROFILE answer is the same
in two states that differ in those values alone. -/
def Obligations.SecretsStayInside : Prop :=
  (∀ (h : Head) (s : State) (even odd : SlotId → ControlKey) (wrapped : Option WrappedKey → Option WrappedKey) (agree : List ServiceKey)
      (t u : State),
    let hideSlot := fun (k : SlotId) (x : KeySlot) => { x with evenKey := x.evenKey.map fun _ => even k, oddKey := x.oddKey.map fun _ => odd k }
    let hideMessage := fun (m : KeyMessage) => { m with evenKey := wrapped m.evenKey, oddKey := wrapped m.oddKey, agreesWith := agree }
    let hidden : State := { s with keys := { s.keys with
      slots := Vector.ofFn fun k => hideSlot k (s.slot k)
      queue := s.keys.queue.map fun e => { e with message := hideMessage e.message }
      engine := s.keys.engine.map fun w => { w with message := hideMessage w.message } } }
    exec (.keySlots h) s = .next t → exec (.keySlots h) hidden = .next u → u.link.slot = t.link.slot)
  ∧ (∀ (h : Head) (s : State) (key : ServiceKey → ServiceKey) (t u : State),
      let hidden : State := { s with account := { s.account with
        serviceKeys := s.account.serviceKeys.map fun r => { r with key := key r.key } } }
      exec (.serviceKeyList h) s = .next t → exec (.serviceKeyList h) hidden = .next u → u.link.slot = t.link.slot)
  ∧ ∀ (h : Head) (s : State) (profile : Nat) (code : ProfileId → Code) (t u : State),
      let hidden : State := { s with profiles := Vector.ofFn fun p => { s.profile p with code := (s.profile p).code.map fun _ => code p } }
      exec (.getProfile h profile) s = .next t → exec (.getProfile h profile) hidden = .next u → u.link.slot = t.link.slot

/-- ACCOUNT STATUS, SERVICE KEY LIST, ENTITLEMENTS and PURCHASES answer in every device state and change nothing; service keys come in ascending id and
entitlements in ascending class.  How many entries fit in one reply is free, but at least one where any is left (log entry 8). -/
def Claims.AccountQueriesAnswer : Prop :=
  ∀ (h : Head) (s : State), Heard h s →
    (∃ timeSet, Returns (.accountStatus h) s (.accountStatus s.account.unitAddress s.account.group s.account.purse s.account.sequence
        s.account.entitlements.length s.account.serviceKeys.length s.account.integrityFailures timeSet)
      ∧ (timeSet = true ↔ s.guide.time.utc ≠ none))
    ∧ Returns (.serviceKeyList h) s (.serviceKeys (s.account.serviceKeys.map fun r =>
        (r.keyId, r.validFrom, r.validUntil, r.valid s.guide.time)))
    ∧ (AccountBounded s.toBlock → ∃ l, Returns (.serviceKeyList h) s (.serviceKeys l) ∧ l.Pairwise fun x y => x.1 < y.1)
    ∧ (∀ first, 1 ≤ first → first ≤ 65535 →
        let l := s.account.entitlements.filter fun e => decide (first ≤ e.cls)
        ∃ n, (l ≠ [] → 1 ≤ n) ∧ Returns (.entitlements h first) s
          (.entitlements ((l.take n).map fun e => (e, e.granted s.guide.time)) (decide (n < l.length)))
          ∧ (AccountBounded s.toBlock → (l.take n).Pairwise fun x y => x.cls < y.cls))
    ∧ (∀ first, first = 0 ∨ 65535 < first → Refuses (.entitlements h first) s .badArgument)
    ∧ (∀ first, first ≤ 31 →
        let l := s.purchases.drop first
        ∃ n, (l ≠ [] → 1 ≤ n) ∧ Returns (.purchases h first) s
          (.purchases ((l.take n).map fun p =>
            (p, if p.state = .metering ∨ p.state = .paidInFull then some (chargesDue p.terms p.clock) else none)) (decide (n < l.length))))
    ∧ ∀ first, 31 < first → Refuses (.purchases h first) s .badArgument

/-- GUIDE STATUS answers in every device state; MULTIPLEXES, SERVICES and EVENT are refused NOT READY before RUNNING, EVENT then by its checks in
order.  That SERVICES is refused NOT READY before RUNNING whatever its first number is the model's choice (log entry 35).  How many service records fit in
one reply is free, but at least one where any is left (log entry 8).  None of them changes anything. -/
def Claims.GuideQueriesAnswer : Prop :=
  ∀ (h : Head) (s : State), Heard h s →
    Returns (.guideStatus h) s (.guideStatus s.guide.acquirer s.guide.mapVersion
        (s.guide.pendingMap.map fun m => (m.version, m.last, m.parts.length)) s.guide.muxes.length s.guide.services.length
        s.guide.pool.length s.guide.time s.guide.time.day? s.guide.time.minute?)
    ∧ (s.link.device ≠ .running → Refuses (.multiplexes h) s .notReady ∧ (∀ first, Refuses (.services h first) s .notReady)
        ∧ ∀ service event, Refuses (.event h service event) s .notReady)
    ∧ (s.link.device = .running →
        Returns (.multiplexes h) s (.multiplexes s.guide.muxes)
        ∧ (∀ first, 1 ≤ first → first ≤ 9999 →
            let l := s.guide.services.filter fun x => decide (first ≤ x.number)
            ∃ n, (l ≠ [] → 1 ≤ n) ∧ Returns (.services h first) s (.services (l.take n) (decide (n < l.length))))
        ∧ (∀ first, first = 0 ∨ 9999 < first → Refuses (.services h first) s .badArgument)
        ∧ ∀ service event,
            (service = 0 ∨ 9999 < service → Refuses (.event h service event) s .badArgument)
            ∧ (1 ≤ service → service ≤ 9999 → s.guide.service? service = none → Refuses (.event h service event) s .unknownService)
            ∧ (1 ≤ service → service ≤ 9999 → s.guide.service? service ≠ none →
                let names := fun e : Event => e ∈ s.guide.events service ∧
                  (event ≠ 0 ∧ e.eventId = event ∨ event = 0 ∧ e.onAir s.guide.time = true)
                ((∀ e, ¬ names e) → Refuses (.event h service event) s .unknownEvent)
                ∧ ((∃ e, names e) → ∃ e, names e ∧ Returns (.event h service event) s (.event e))))

/-- The queries of the account, the purchase list and the guide give what is held, by their checks in order, and change nothing (NOT READY before BAD
ARGUMENT in SERVICES is log entry 35). -/
def Obligations.AccountAndGuideQueriesAnswer : Prop :=
  Claims.AccountQueriesAnswer ∧ Claims.GuideQueriesAnswer

/-- Day index and minute of day are local seconds, UTC plus 60 times the offset in force, cut into days of 86,400 s and minutes of 60 s; with time
unset there is neither. -/
def Obligations.LocalTimeFollowsTheOffset : Prop :=
  (∀ t : TimeBase, t.utc = none → t.day? = none ∧ t.minute? = none)
  ∧ (∀ (t : TimeBase) (u : Nat), t.utc = some u → ∃ (d : Int) (m : Nat) (r : Nat), t.day? = some d ∧ t.minute? = some m
      ∧ m < 1440 ∧ r < 60 ∧ (u : Int) + 60 * t.offset = 86400 * d + 60 * m + r)
  ∧ ({ utc := some 1700000000, offset := -300, change := none } : TimeBase).day? = some 19675
  ∧ ({ utc := some 1700000000, offset := -300, change := none } : TimeBase).minute? = some 1033

/-- Whether an event matches a SEEK, field by field (R45). -/
def seekFieldMatches (q : SeekQuery) (e : Event) : Prop :=
  let number := fun n : Nat =>
    match q.condition with
    | .eq => n = q.value
    | .ne => n ≠ q.value
    | .lt => n < q.value
    | .le => n ≤ q.value
    | .gt => n > q.value
    | .ge => n ≥ q.value
    | _ => False
  match q.field with
  | .start => number e.start
  | .duration => number e.duration
  | .rating => number e.rating
  | .cls => number e.accessClass
  | .flatPrice => number e.flatPrice
  | .priceMode => number (match e.priceMode with | .free => 0 | .flat => 1 | .metered => 2 | .unpriced => 3)
  | .categories =>
    match q.condition with
    | .anyOf => ∃ i < 8, e.categories.getLsbD i = true ∧ q.value.testBit i = true
    | .allOf => ∀ i < 8, q.value.testBit i = true → e.categories.getLsbD i = true
    | .noneOf => ∀ i < 8, ¬ (e.categories.getLsbD i = true ∧ q.value.testBit i = true)
    | _ => False
  | .series => q.condition = .eq ∧ e.series = some q.value

/-- The arguments that SEEK allows (R43 step 2). -/
def seekAllowed (q : SeekQuery) : Prop :=
  (1 ≤ q.service ∧ q.service ≤ 9999) ∧ (1 ≤ q.limit ∧ q.limit ≤ 256)
    ∧ (match q.field with
       | .categories => (q.condition = .anyOf ∨ q.condition = .allOf ∨ q.condition = .noneOf) ∧ q.value ≤ 255
       | .series => q.condition = .eq ∧ 1 ≤ q.value ∧ q.value ≤ 65535
       | _ => q.condition ≠ .anyOf ∧ q.condition ≠ .allOf ∧ q.condition ≠ .noneOf)

/-- The events of a SEEK's walk in its direction, from the first one it examines on (R44). -/
def seekOrder (q : SeekQuery) (l : List Event) : List Event :=
  let ordered := match q.direction with | .forward => l | .backward => l.reverse
  let after := fun (start : Nat) (x : Event) => match q.direction with | .forward => decide (start < x.start) | .backward => decide (x.start < start)
  match (if q.fromId = 0 then none else l.find? fun e => decide (e.eventId = q.fromId)) with
  | some e => ordered.filter fun x => after e.start x || (q.includeFrom && decide (x.start = e.start))
  | none => ordered.filter fun x => after q.fromStart x || decide (x.start = q.fromStart)

/-- SEEK: refused by its checks in order; otherwise it examines the events of its walk up to its limit, and answers the first that matches, or the
one to go on from, or that the list has run out. -/
def Obligations.SeekAnswersByItsWalk : Prop :=
  ∀ (h : Head) (q : SeekQuery) (s : State), Heard h s → PoolOrdered s.toBlock →
    requestKind (.seek h q) = some 0x41
    ∧ (s.link.device ≠ .running → Refuses (.seek h q) s .notReady)
    ∧ (s.link.device = .running → ¬ seekAllowed q → Refuses (.seek h q) s .badArgument)
    ∧ (s.link.device = .running → seekAllowed q → s.guide.service? q.service = none → Refuses (.seek h q) s .unknownService)
    ∧ (s.link.device = .running → seekAllowed q → s.guide.service? q.service ≠ none →
        let walk := seekOrder q (s.guide.events q.service)
        (∀ pre e post, walk = pre ++ e :: post → (∀ x ∈ pre, ¬ seekFieldMatches q x) → pre.length < q.limit → seekFieldMatches q e →
            Returns (.seek h q) s (.seek (.found e.eventId e.start (pre.length + 1) (q.limit - (pre.length + 1)))))
        ∧ (∀ pre e post, walk = pre ++ e :: post → (∀ x ∈ pre, ¬ seekFieldMatches q x) → pre.length = q.limit →
            Returns (.seek h q) s (.seek (.limit e.eventId e.start q.limit)))
        ∧ ((∀ x ∈ walk, ¬ seekFieldMatches q x) → walk.length ≤ q.limit → Returns (.seek h q) s (.seek (.finished walk.length))))

/-- OUTPUT STATUS, GET PROFILE, RING STATUS and FAULT REPORT give every field of their output or profile in every device state, refuse any other id
BAD ARGUMENT, and change nothing.  The ids 4 and 5 of R0 and R1 are log entry 7. -/
def Obligations.StatusQueriesAnswer : Prop :=
  ∀ (h : Head) (s : State), Heard h s →
    (∀ o : OutId, ∃ v, Returns (.outputStatus h o.val) s (.outputStatus o v)
        ∧ v.current = (s.out o).current ∧ v.verdict = (s.out o).verdict ∧ v.delivery = (s.out o).delivery
        ∧ v.tolerance = (s.out o).tolerance ∧ v.hold = (s.out o).hold ∧ v.restSeconds = (s.out o).restSeconds
        ∧ v.stopAt = (s.out o).stopAt ∧ v.scope = (s.out o).override.map (·.scope) ∧ v.silence = (s.out o).silence
        ∧ v.status = (s.out o).fault.status ∧ v.pointer = (s.out o).fault.pointer ∧ v.part = (s.out o).part
        ∧ (∀ p : PresId, o.val = p.val → v.profile = some (s.boundProfile p) ∧ v.warm = some (s.warm p) ∧ v.recalls = s.recalls p)
        ∧ (4 ≤ o.val → v.profile = none ∧ v.warm = none ∧ v.recalls = []))
    ∧ (∀ n, 6 ≤ n → Refuses (.outputStatus h n) s .badArgument ∧ Refuses (.faultReport h n) s .badArgument)
    ∧ (∀ o : OutId, Returns (.faultReport h o.val) s (.faultReport (s.out o).fault))
    ∧ (∀ p : ProfileId, ∃ spent bound, Returns (.getProfile h p.val) s (.profile (s.profile p).settings (s.profile p).code.isSome
          (s.profile p).spent (s.profile p).day (s.profile p).wrongCodes (s.profile p).lockout spent bound)
        ∧ (spent = true ↔ (s.profile p).settings.allowance < 1440 ∧ 60 * (s.profile p).settings.allowance ≤ (s.profile p).spent)
        ∧ ∀ w, w ∈ bound ↔ s.boundProfile w = p)
    ∧ (∀ n, 8 ≤ n → Refuses (.getProfile h n) s .badArgument)
    ∧ (∀ r : RecId, ∃ v, Returns (.ringStatus h (r.val + 4)) s (.ring v s.ringWriter.stamp)
        ∧ v.field = (s.ring r).field ∧ v.halves = (s.ring r).halves ∧ (s.ring r).writer.shownAs v.writer
        ∧ v.lastFilled = (s.ring r).lastFilled ∧ v.drain = (s.ring r).drain)
    ∧ ∀ n, n < 4 ∨ 6 ≤ n → Refuses (.ringStatus h n) s .badArgument

/-! ## Tuners -/

/-- The four steps of an allocation: the lowest tuner in use on the multiplex is shared; else the lowest FREE one is taken; else, of the tuners in
use whose strongest holder is weaker than the requester, the weakest and then lowest; else the request is refused.  PRIMARY is stronger than WARM, and WARM
than GUIDE. -/
def Claims.TunersAreChosenByFourSteps : Prop :=
  (HolderClass.guide.rank < HolderClass.warm.rank ∧ HolderClass.warm.rank < HolderClass.primary.rank)
  ∧ (∀ x : Tuner, x.holders ≠ [] → (∃ h ∈ x.holders, h.cls.rank = x.strongest) ∧ ∀ h ∈ x.holders, h.cls.rank ≤ x.strongest)
  ∧ ∀ (p : TunerPool) (cls : HolderClass) (m : Mux),
    let onMux := fun t : TunerId => (p.tuners.get t).inUse = true ∧ (p.tuners.get t).mux = some m
    let free := fun t : TunerId => (p.tuners.get t).state = .free
    let weaker := fun t : TunerId => (p.tuners.get t).inUse = true ∧ (p.tuners.get t).strongest < cls.rank
    (∀ t, chooseTuner p cls m = some (t, .share) ↔ onMux t ∧ ∀ k, k < t → ¬ onMux k)
    ∧ (∀ t, chooseTuner p cls m = some (t, .free) ↔ (∀ k, ¬ onMux k) ∧ free t ∧ ∀ k, k < t → ¬ free k)
    ∧ (∀ t, chooseTuner p cls m = some (t, .preempt) ↔ (∀ k, ¬ onMux k) ∧ (∀ k, ¬ free k) ∧ weaker t
        ∧ ∀ k, weaker k → (p.tuners.get t).strongest < (p.tuners.get k).strongest
            ∨ (p.tuners.get t).strongest = (p.tuners.get k).strongest ∧ t ≤ k)
    ∧ (chooseTuner p cls m = none ↔ ∀ k, ¬ onMux k ∧ ¬ free k ∧ ¬ weaker k)

/-- A slot asked for by a tag is served by the first step that applies (R79).  Join: of the slots in AWAIT, UNWRAP or LIVE the one with the tag gains the context
and keeps its state, keys and generation.  Return: the RETAINED slot with the tag becomes LIVE for the context alone, keeps everything else and leaves the
retained order; that what it keeps takes in the refusal mark is the model's reading (log entry 22).  Take: the lowest FREE slot, and where none is FREE the RETAINED slot that entered first, is in AWAIT with the tag for the context alone, at the
next generation, without keys, parity, applied version, retain flag and mark.  No other slot changes, nor queue, engine, arrival numbers or retention. -/
def Claims.SlotsAreGivenByTag : Prop :=
  ∀ (u : KeyUnit) (ctx : CtxId) (tag : KeyTag),
    let was := fun k : SlotId => u.slots.get k
    let got := u.obtain ctx tag
    let lowest := fun (test : SlotId → Prop) k => test k ∧ ∀ j, j < k → ¬ test j
    let joins := fun k => ((was k).state = .await ∨ (was k).state = .unwrap ∨ (was k).state = .live) ∧ (was k).tag = some tag
    let returns := fun k => (was k).state = .retained ∧ (was k).tag = some tag
    let free := fun k => (was k).state = .free
    let gives := fun k (y : KeySlot) order =>
      got.2 = some { slot := k, generation := y.generation }
        ∧ got.1 = { u with slots := got.1.slots, retained := order } ∧ got.1.slots.get k = y ∧ ∀ j, j ≠ k → got.1.slots.get j = was j
    let taken := fun k : SlotId =>
      ({ state := .await, tag := some tag, generation := ((was k).generation + 1) % 65536, users := [ctx], evenKey := none, oddKey := none
         parity := none, lastVersion := none, retain := false, mark := none } : KeySlot)
    (∀ k, lowest joins k → ∃ users, (∀ x, x ∈ users ↔ x = ctx ∨ x ∈ (was k).users) ∧ gives k { was k with users := users } u.retained)
    ∧ ((∀ k, ¬ joins k) →
        (∀ k, lowest returns k → gives k { was k with state := .live, users := [ctx] } (u.retained.filter fun j => decide (j ≠ k)))
        ∧ ((∀ k, ¬ returns k) →
            (∀ k, lowest free k → gives k (taken k) u.retained)
            ∧ ((∀ k, ¬ free k) →
                (∀ k rest, u.retained = k :: rest → gives k (taken k) rest) ∧ (u.retained = [] → got = (u, none)))))

/-- A context leaves a slot (R80): one that it does not use stays; one with other users stays without it; one left without users enters RETAINED, last in the order
and with everything but its users kept, exactly with retention on and its retain flag set, and becomes FREE at its generation otherwise, and its queue
entry goes.  That what a RETAINED slot keeps takes in the refusal mark is the model's reading (log entry 22).  A context's slot follows a tag: the slot by the tag first, and then the leaving of an old slot that is another (R51, R74). -/
def Claims.SlotsAreLeft : Prop :=
  (∀ (u : KeyUnit) (ctx : CtxId) (k : SlotId),
    let x := u.slots.get k
    let after := u.leave ctx k
    let becomes := fun (y : KeySlot) => after.slots.get k = y ∧ ∀ j, j ≠ k → after.slots.get j = u.slots.get j
    (ctx ∉ x.users → after = u)
    ∧ (ctx ∈ x.users → (∃ y ∈ x.users, y ≠ ctx) →
        becomes { x with users := x.users.filter fun y => decide (y ≠ ctx) } ∧ after = { u with slots := after.slots })
    ∧ (ctx ∈ x.users → (∀ y ∈ x.users, y = ctx) →
        after = { u with slots := after.slots, retained := after.retained, queue := u.queue.filter fun e => decide (e.slot ≠ k) }
        ∧ (u.retention = true → x.retain = true → becomes { x with state := .retained, users := [] } ∧ after.retained = u.retained ++ [k])
        ∧ (u.retention = false ∨ x.retain = false → after.retained = u.retained ∧ becomes
            { state := .free, tag := none, generation := x.generation, users := [], evenKey := none, oddKey := none, parity := none
              lastVersion := none, retain := false, mark := none })))
  ∧ (∀ (u : KeyUnit) (ctx : CtxId), u.leaveRef ctx none = u ∧ ∀ r, u.leaveRef ctx (some r) = u.leave ctx r.slot)
  ∧ ∀ (u : KeyUnit) (ctx : CtxId) (old : Option SlotRef),
      u.follow ctx old none = (u.leaveRef ctx old, none)
      ∧ ∀ tag, (u.follow ctx old (some tag)).2 = (u.obtain ctx tag).2
          ∧ (u.follow ctx old (some tag)).1 =
              if (u.obtain ctx tag).2.map (·.slot) = old.map (·.slot) then (u.obtain ctx tag).1 else (u.obtain ctx tag).1.leaveRef ctx old

/-- The allocation of tuners and of key slots, each by the first of its four steps that applies, and the leaving of slots.  A RETAINED slot and its
return keep the refusal mark by the model's reading (log entry 22). -/
def Obligations.AllocationFollowsTheFourSteps : Prop :=
  Claims.TunersAreChosenByFourSteps ∧ Claims.SlotsAreGivenByTag ∧ Claims.SlotsAreLeft

/-- What a grant does to the tuner it grants: a shared tuner keeps its state, multiplex, order and timer and gains the requester at the end of its
list; any other is ordered to the multiplex with the next order number, TUNING for the requester alone with its lock timer started.  No request takes
a tuner from a PRIMARY holder, and a request with a multiplex that names nothing is refused. -/
def Claims.GrantsOrderTheTuner : Prop :=
  ∀ (b : Block) (who : HolderId) (cls : HolderClass) (m : Option Mux) (l : Listing), TunersConsistent b →
    (m = none → b.allocate who cls m l = none)
    ∧ (∀ x, m = some x → (b.allocate who cls m l = none ↔ chooseTuner b.pool cls x = none))
    ∧ ∀ x c t st, m = some x → b.allocate who cls m l = some (c, t, st) →
        (chooseTuner b.pool cls x = some (t, .share) →
          st = (b.tuner t).state ∧ c.ports = b.ports
          ∧ c.tuner t = { b.tuner t with
              holders := if (b.tuner t).holds who then (b.tuner t).holders else (b.tuner t).holders ++ [{ who := who, cls := cls }] }
          ∧ ∀ k, k ≠ t → c.tuner k = b.tuner k)
        ∧ (chooseTuner b.pool cls x ≠ some (t, .share) →
          c.tuner t = { state := .tuning, mux := m, order := ((b.tuner t).order + 1) % 65536, holders := [{ who := who, cls := cls }],
                        timer := some { kind := .lock, left := b.pool.lockTimeout } }
          ∧ c.ports.tuning.get t = b.ports.tuning.get t ++ [.tune (((b.tuner t).order + 1) % 65536) x]
          ∧ ∀ k, k ≠ t → c.tuner k = b.tuner k ∧ c.ports.tuning.get k = b.ports.tuning.get k)
        ∧ ∀ k h, h ∈ (b.tuner k).holders → h.cls = .primary → h ∈ (c.tuner k).holders

/-- What a grant does to the label tables: on the granted input a requester that is a context and joins lists exactly its listing beside what stands there, and
every label that stays keeps its expectation; no other input changes.  Where the tuner is taken by preemption, the listings of its holders have gone first, and
the part-wide labels where it was LOCKED (R5, R6, R14, R15). -/
def Claims.GrantsListTheLabels : Prop :=
  ∀ (b : Block) (who : HolderId) (cls : HolderClass) (x : Mux) (l : Listing) (c : Block) (t : TunerId) (st : TunerState) (g : GrantStep),
    chooseTuner b.pool cls x = some (t, g) → b.allocate who cls (some x) l = some (c, t, st) →
    let own := fun (d : Dest) (label : Nat) => ∃ y r, who = .ctx y ∧ d = .ctx y r ∧ (label, r) ∈ l
    (∀ k, k ≠ t → c.table k = b.table k)
    ∧ (g = .share → (b.tuner t).holds who = true → c = b)
    ∧ (g = .share ∧ (b.tuner t).holds who = false ∨ g = .free →
        (∀ label d, Routes c t label d ↔ Routes b t label d ∨ own d label)
        ∧ c = { b with
                pool := { b.pool with tuners := c.pool.tuners }
                filter := { b.filter with tables := c.filter.tables }
                ports := { b.ports with tuning := c.ports.tuning } })
    ∧ (g = .preempt → ∀ label d, Routes c t label d ↔ own d label ∨ (Routes b t label d
        ∧ (∀ y r, d = .ctx y r → (b.tuner t).holds (.ctx y) = false)
        ∧ (d = .entitlement ∨ d = .guide → (b.tuner t).state ≠ .locked)))
    ∧ (TablesOrdered b → ∀ e ∈ b.table t, ∀ e' ∈ c.table t, e'.label = e.label → e'.expect = e.expect ∨ g = .preempt)

/-- What preemption does to the holders it evicts: a warm context leaves its slot and goes COLD, keeping its service, with a WARM notice; the acquirer goes
PAUSED without a tuner, with a GUIDE notice; everything else that they do not hold stays (R5, R21, R63, R80). -/
def Claims.PreemptionEvictsTheHolders : Prop :=
  ∀ (b : Block) (who : HolderId) (cls : HolderClass) (x : Mux) (l : Listing) (c : Block) (t : TunerId) (st : TunerState),
    TunersConsistent b → chooseTuner b.pool cls x = some (t, .preempt) → b.allocate who cls (some x) l = some (c, t, st) →
    let evicted := fun y : HolderId => (b.tuner t).holds y = true
    (∀ w, evicted (.ctx (.warm w)) →
      c.warm w = { state := .cold, part := (b.warm w).part.map fun p => { p with tuner := none, signal := none, slot := none } }
      ∧ (∀ p r, (b.warm w).part = some p → p.slot = some r → .warm w ∉ (c.slot r.slot).users)
      ∧ ((b.warm w).state ≠ .cold → ∃ n ∈ c.link.notices, n.key = .warm w))
    ∧ (∀ w, ¬ evicted (.ctx (.warm w)) → c.warm w = b.warm w)
    ∧ (evicted .acquirer → c.guide.acquirer = { state := .paused, tuner := none } ∧ ∃ n ∈ c.link.notices, n.key = .guide)
    ∧ (¬ evicted .acquirer → c.guide = b.guide)
    ∧ c.keys = evictedKeys b t
    ∧ (∀ k u, u ∈ (c.slot k).users → u ∈ (b.slot k).users)
    ∧ (∀ k u, u ∈ (b.slot k).users → ¬ evicted (.ctx u) → u ∈ (c.slot k).users)
    ∧ (∀ k, (∀ w p r, evicted (.ctx (.warm w)) → (b.warm w).part = some p → p.slot = some r → r.slot ≠ k) → c.slot k = b.slot k)
    ∧ PostsOnly (fun n => n = .guide ∨ ∃ w, n = .warm w) b c
    ∧ c = { b with
            link := { b.link with notices := c.link.notices }
            pool := { b.pool with tuners := c.pool.tuners }
            filter := { b.filter with tables := c.filter.tables }
            engines := { b.engines with warms := c.engines.warms }
            keys := { b.keys with slots := c.keys.slots, retained := c.keys.retained, queue := c.keys.queue }
            guide := { b.guide with acquirer := c.guide.acquirer }
            ports := { b.ports with tuning := c.ports.tuning } }

/-- A release: a holder that is not the last leaves the tuner as it was without it; the last one leaves it halted with the next order number, and
FREE unless the Guide Store, signalled, takes it or another at once.  A context's listing leaves the table of that tuner, the part-wide labels leave it with the
last holder of a LOCKED tuner, and no other label goes or comes. -/
def Claims.ReleasesHaltTheTuner : Prop :=
  ∀ (b : Block) (who : HolderId) (t : TunerId), (b.tuner t).holds who = true →
    let left := (b.tuner t).holders.filter fun h => decide (h.who ≠ who)
    (left ≠ [] → (b.releaseTuner who t).tuner t = { b.tuner t with holders := left } ∧ (b.releaseTuner who t).ports = b.ports
      ∧ (b.releaseTuner who t).link = b.link ∧ (b.releaseTuner who t).guide = b.guide)
    ∧ (left = [] → b.guide.acquirer.state ≠ .waitTuner → b.guide.acquirer.state ≠ .paused →
        (b.releaseTuner who t).tuner t = { state := .free, mux := none, order := ((b.tuner t).order + 1) % 65536, holders := [], timer := none }
        ∧ (b.releaseTuner who t).ports.tuning.get t = b.ports.tuning.get t ++ [.halt (((b.tuner t).order + 1) % 65536)])
    ∧ (left = [] → [.halt (((b.tuner t).order + 1) % 65536)] <+: ((b.releaseTuner who t).ports.tuning.get t).drop (b.ports.tuning.get t).length)
    ∧ (∀ k, k ≠ t → (b.releaseTuner who t).tuner k = b.tuner k
        ∨ (b.guide.acquirer.state = .waitTuner ∨ b.guide.acquirer.state = .paused)
          ∧ (b.releaseTuner who t).guide.acquirer.tuner = some k)
    ∧ (∀ k, k ≠ t → (b.releaseTuner who t).table k = b.table k)
    ∧ (∀ label d, Routes (b.releaseTuner who t) t label d ↔ Routes b t label d ∧ (∀ y r, d = .ctx y r → who ≠ .ctx y)
        ∧ (d = .entitlement ∨ d = .guide → left ≠ [] ∨ (b.tuner t).state ≠ .locked))
    ∧ b.releaseTuner who t = { b with
        link := { b.link with notices := (b.releaseTuner who t).link.notices }
        pool := { b.pool with tuners := (b.releaseTuner who t).pool.tuners }
        filter := { b.filter with tables := (b.releaseTuner who t).filter.tables }
        guide := { b.guide with acquirer := (b.releaseTuner who t).guide.acquirer }
        ports := { b.ports with tuning := (b.releaseTuner who t).ports.tuning } }

/-- What a grant, a preemption and a release do to the tuner, its holders, its tuning line and its labels, and to no other tuner. -/
def Obligations.GrantsAndReleasesOrderTheTuner : Prop :=
  Claims.GrantsOrderTheTuner ∧ Claims.GrantsListTheLabels ∧ Claims.PreemptionEvictsTheHolders ∧ Claims.ReleasesHaltTheTuner

/-- A lock report as it comes in: the order number it names and whether it says locked, none where its form is wrong (R8, R9). -/
def reportSays (x : BitVec 64) : Option (Nat × Bool) :=
  if x.extractLsb' 0 8 = 0x81 ∧ (x.extractLsb' 24 8 = 0 ∨ x.extractLsb' 24 8 = 1) then
    some ((x.extractLsb' 8 16).toNat, decide (x.extractLsb' 24 8 = 1))
  else none

/-- A LOCK REPORT that is malformed, stale, for a tuner out of use, or says nothing new is ignored.  A current one that says locked takes a TUNING or
RETRY tuner to LOCKED with its timer stopped, and every output holding it to signal LOCKED; one that says unlocked takes a LOCKED tuner to RETRY with
its retry timer started, and every output holding it to NOT LOCKED.  Their verdicts and delivery states are evaluated then.  Orders, multiplexes and other
tuners' states stay. -/
def Claims.LockReportsActByState : Prop :=
  ∀ (t : TunerId) (x : BitVec 64) (s : State),
    let current := fun locked => reportSays x = some ((s.tuner t).order, locked)
    ((∀ locked, ¬ current locked) ∨ (s.tuner t).state = .free ∨ (s.tuner t).state = .absent
        ∨ (current true ∧ (s.tuner t).state = .locked) ∨ (current false ∧ (s.tuner t).state ≠ .locked) → Makes (.lockReport t x) s s.toBlock)
    ∧ (current true → (s.tuner t).state = .tuning ∨ (s.tuner t).state = .retry → ∃ c, Makes (.lockReport t x) s c
        ∧ (c.tuner t).state = .locked ∧ (c.tuner t).timer = none ∧ (c.tuner t).mux = (s.tuner t).mux ∧ (c.tuner t).order = (s.tuner t).order
        ∧ (s.tuner t).holders <+: (c.tuner t).holders
        ∧ (∀ k, k ≠ t → s.guide.acquirer.state ≠ .waitTuner → s.guide.acquirer.state ≠ .paused → c.tuner k = s.tuner k)
        ∧ (∀ o p, { who := .ctx (.out o), cls := .primary } ∈ (s.tuner t).holders → (s.out o).part = some p →
            (c.out o).part = some { p with signal := some .locked } ∧ OutputPosted o s.toBlock c ∧ (CurrentMatches s.toBlock → UpToDate c o))
        ∧ (∀ o, (∀ h ∈ (s.tuner t).holders, h.who ≠ .ctx (.out o)) → c.out o = s.out o)
        ∧ c.account = s.account ∧ c.profiles = s.profiles ∧ c.ringWriter = s.ringWriter ∧ c.keys = s.keys ∧ OffersOnly s.toBlock c
        ∧ c.guide = { s.guide with acquirer := c.guide.acquirer })
    ∧ (current false → (s.tuner t).state = .locked → ∃ c, Makes (.lockReport t x) s c
        ∧ c.tuner t = { s.tuner t with state := .retry, timer := some { kind := .retry, left := 2000 } }
        ∧ (∀ k, k ≠ t → c.tuner k = s.tuner k ∧ c.table k = s.table k)
        ∧ (∀ e ∈ c.table t, ∀ d ∈ e.dests, d ≠ .entitlement ∧ d ≠ .guide)
        ∧ (∀ o p, { who := .ctx (.out o), cls := .primary } ∈ (s.tuner t).holders → (s.out o).part = some p →
            (c.out o).part = some { p with signal := some .notLocked } ∧ OutputPosted o s.toBlock c ∧ (CurrentMatches s.toBlock → UpToDate c o)
            ∧ (FaultClass.signalLoss ∉ (s.out o).fault.mask → FaultClass.signalLoss ∈ (c.out o).fault.status))
        ∧ (∀ o, (∀ h ∈ (s.tuner t).holders, h.who ≠ .ctx (.out o)) → c.out o = s.out o)
        ∧ c.account = s.account ∧ c.profiles = s.profiles ∧ c.ringWriter = s.ringWriter ∧ c.keys = s.keys ∧ c.ports = s.ports
        ∧ OffersOnly s.toBlock c ∧ c.guide = { s.guide with acquirer := c.guide.acquirer })

/-- What a change of lock does to the label table of its tuner (R9, R15): on LOCKED the entitlement label of SET HOME is there, and the guide label on the home
multiplex, and every expectation is none; on LOST the part-wide labels go and every listing of a context stays. -/
def Claims.LockReportsInstallLabels : Prop :=
  ∀ (t : TunerId) (x : BitVec 64) (s b : State), exec (.lockReport t x) s = .next b →
    (reportSays x = some ((s.tuner t).order, true) → (s.tuner t).state = .tuning ∨ (s.tuner t).state = .retry →
      (∀ label d, Routes b.toBlock t label d ↔ Routes s.toBlock t label d ∨ ∃ home, s.link.home = some home
        ∧ (d = .entitlement ∧ label = home.entitlementLabel ∨ d = .guide ∧ label = home.guideLabel ∧ (s.tuner t).mux = some home.mux))
      ∧ (∀ e ∈ b.table t, e.expect = none) ∧ ∀ k, k ≠ t → b.table k = s.table k)
    ∧ (reportSays x = some ((s.tuner t).order, false) → (s.tuner t).state = .locked →
        ∀ label d, Routes b.toBlock t label d ↔ Routes s.toBlock t label d ∧ d ≠ .entitlement ∧ d ≠ .guide)

/-- What the warm contexts of a tuner make of a report (R49, R63): the signal status follows it; LOCKED takes PREPARING to READY where the service is clear or its
slot LIVE, LOST takes READY to PREPARING, and nothing else changes the state; a change of state posts a WARM notice.  Warm contexts that do not hold the tuner
stay as they are. -/
def Claims.WarmContextsFollowTheLock : Prop :=
  ∀ (t : TunerId) (c : Instr) (s b : State) (signal : Signal),
    exec c s = .next b →
    ((∃ x, c = .lockReport t x ∧ reportSays x = some ((s.tuner t).order, true) ∧ signal = .locked)
        ∧ ((s.tuner t).state = .tuning ∨ (s.tuner t).state = .retry)
      ∨ (∃ x, c = .lockReport t x ∧ reportSays x = some ((s.tuner t).order, false) ∧ signal = .notLocked) ∧ (s.tuner t).state = .locked
      ∨ c = .lockTimerExpiry t ∧ (s.tuner t).state = .tuning ∧ (s.tuner t).timer.map (·.kind) = some .lock ∧ signal = .notLocked) →
    let ready := fun p : ServicePart => p.keyLabel = none ∨ ∃ r, p.slot = some r ∧ (s.slot r.slot).state = .live
    (∀ w p, (s.tuner t).holds (.ctx (.warm w)) = true → (s.warm w).part = some p →
      (b.warm w).part = some { p with signal := some signal }
      ∧ (signal = .locked → (s.warm w).state = .preparing →
          (ready p → (b.warm w).state = .ready) ∧ (¬ ready p → (b.warm w).state = .preparing))
      ∧ (signal = .notLocked → (s.warm w).state = .ready → (s.tuner t).state = .locked → (b.warm w).state = .preparing)
      ∧ (¬ (signal = .locked ∧ (s.warm w).state = .preparing) → ¬ (signal = .notLocked ∧ (s.warm w).state = .ready ∧ (s.tuner t).state = .locked) →
          (b.warm w).state = (s.warm w).state)
      ∧ ((b.warm w).state ≠ (s.warm w).state → ∃ n ∈ b.link.notices, n.key = .warm w))
    ∧ (∀ w, (s.tuner t).holds (.ctx (.warm w)) = false ∨ (s.warm w).part = none → b.warm w = s.warm w)
    ∧ b.engines = { s.engines with outputs := b.engines.outputs, warms := b.engines.warms }

/-- What the acquirer makes of a change of lock (R20 to R22): on its own tuner LOCKED takes it from TUNING to COLLECTING and LOST back; in WAIT TUNER and PAUSED it
asks again when a tuner enters LOCKED on the home multiplex, and shares the lowest tuner in use there; each change posts a GUIDE notice.  Otherwise it stays. -/
def Claims.AcquirerFollowsTheLock : Prop :=
  ∀ (t : TunerId) (x : BitVec 64) (s b : State), exec (.lockReport t x) s = .next b →
    let a := s.guide.acquirer
    let waits := a.state = .waitTuner ∨ a.state = .paused
    let home := s.link.home.map (·.mux)
    let becomes := fun (y : AcquirerState) (k : Option TunerId) =>
      b.guide.acquirer = { state := y, tuner := k } ∧ ∃ n ∈ b.link.notices, n.key = .guide
    (reportSays x = some ((s.tuner t).order, true) → (s.tuner t).state = .tuning ∨ (s.tuner t).state = .retry →
      ((s.tuner t).holds .acquirer = true → a.state = .tuning → becomes .collecting a.tuner)
      ∧ (waits → (s.tuner t).mux ≠ none → (s.tuner t).mux = home →
          let there := fun k : TunerId => (s.tuner k).inUse = true ∧ (s.tuner k).mux = home
          ∀ k, there k → (∀ j, j < k → ¬ there j) →
            becomes (if k = t ∨ (s.tuner k).state = .locked then .collecting else .tuning) (some k) ∧ (b.tuner k).holds .acquirer = true)
      ∧ (¬ ((s.tuner t).holds .acquirer = true ∧ a.state = .tuning) → ¬ (waits ∧ (s.tuner t).mux ≠ none ∧ (s.tuner t).mux = home) → b.guide = s.guide))
    ∧ (reportSays x = some ((s.tuner t).order, false) → (s.tuner t).state = .locked →
        ((s.tuner t).holds .acquirer = true → a.state = .collecting → becomes .tuning a.tuner)
        ∧ (¬ ((s.tuner t).holds .acquirer = true ∧ a.state = .collecting) → b.guide = s.guide))

/-- The lock timer of a TUNING tuner takes it to RETRY, without an order, and its outputs to NOT LOCKED, evaluated then; the retry timer of a RETRY tuner re-sends its
order with the next number and starts again, without a report.  An expiry of a timer that does not run changes nothing (log entry 10). -/
def Claims.TimersRetryTheTuner : Prop :=
  ∀ (t : TunerId) (s : State), TunersConsistent s.toBlock →
    ((s.tuner t).state = .tuning → ∃ c, Makes (.lockTimerExpiry t) s c
      ∧ c.tuner t = { s.tuner t with state := .retry, timer := some { kind := .retry, left := 2000 } }
      ∧ (∀ k, k ≠ t → c.tuner k = s.tuner k)
      ∧ (∀ o p, { who := .ctx (.out o), cls := .primary } ∈ (s.tuner t).holders → (s.out o).part = some p →
          (c.out o).part = some { p with signal := some .notLocked } ∧ OutputPosted o s.toBlock c ∧ (CurrentMatches s.toBlock → UpToDate c o))
      ∧ (∀ o, (∀ h ∈ (s.tuner t).holders, h.who ≠ .ctx (.out o)) → c.out o = s.out o)
      ∧ OffersOnly s.toBlock c
      ∧ c = { s.toBlock with
              link := { s.link with notices := c.link.notices }, pool := c.pool, engines := c.engines, purchases := c.purchases })
    ∧ ((s.tuner t).state ≠ .tuning → Makes (.lockTimerExpiry t) s s.toBlock)
    ∧ (∀ m, (s.tuner t).state = .retry → (s.tuner t).mux = some m → ∃ c, Makes (.retryTimerExpiry t) s c
      ∧ c.tuner t = { s.tuner t with order := ((s.tuner t).order + 1) % 65536, timer := some { kind := .retry, left := 2000 } }
      ∧ (∀ k, k ≠ t → c.tuner k = s.tuner k ∧ c.ports.tuning.get k = s.ports.tuning.get k)
      ∧ c.ports.tuning.get t = s.ports.tuning.get t ++ [.tune (((s.tuner t).order + 1) % 65536) m]
      ∧ c = { s.toBlock with
              pool := { s.pool with tuners := c.pool.tuners }, ports := { s.ports with tuning := c.ports.tuning } })
    ∧ ((s.tuner t).state ≠ .retry → Makes (.retryTimerExpiry t) s s.toBlock)

/-- Lock reports and the lock and retry timers move a tuner between TUNING, LOCKED and RETRY, and with it its part-wide labels, the signal status of its outputs
and warm contexts, and the acquirer. -/
def Obligations.LockReportsAndTimersActByState : Prop :=
  Claims.LockReportsActByState ∧ Claims.LockReportsInstallLabels ∧ Claims.WarmContextsFollowTheLock ∧ Claims.AcquirerFollowsTheLock
    ∧ Claims.TimersRetryTheTuner

/-! ## Channel change -/

/-- TUNE meets its checks in order.  To the output's own service it changes nothing while the output holds a tuner awake, and is a WAKE while the
output rests. -/
def Claims.TuneMeetsItsChecks : Prop :=
  ∀ (h : Head) (output service : Nat) (s : State), Heard h s →
    (s.link.device ≠ .running → Refuses (.tune h output service) s .notReady)
    ∧ (s.link.device = .running →
        (4 ≤ output ∨ service = 0 ∨ 9999 < service → Refuses (.tune h output service) s .badArgument)
        ∧ ∀ w : PresId, output = w.val → 1 ≤ service → service ≤ 9999 →
          (s.guide.service? service = none → Refuses (.tune h output service) s .unknownService)
          ∧ ∀ p, s.guide.service? service ≠ none → (s.out (presOut w)).part = some p → p.service = service →
              ((s.out (presOut w)).restLevel = .awake → p.tuner ≠ none → AcksIdly (.tune h output service) s)
              ∧ ((s.out (presOut w)).restLevel ≠ .awake → exec (.tune h output service) s = exec (.wake h output) s))

/-- The service part that the recall path builds from a hit, or the cold path from the service table (R56), before tuner and slot. -/
def builtPart (s : State) (useStack : Bool) (w : PresId) (x : Service) (p : ServicePart) : Prop :=
  p.service = x.number ∧ p.muxIndex = x.muxIndex
    ∧ match (s.recalls w).find? fun r => useStack && decide (r.service = x.number) && decide (some r.version = s.guide.mapVersion) with
      | some r => p.version = r.version ∧ p.video = r.video ∧ p.audioIndex = r.audioIndex ∧ p.audioLabel = r.audioLabel
          ∧ p.captions = r.captions ∧ p.keyLabel = r.keyLabel
      | none => p.version = x.version ∧ p.video = x.video ∧ p.audioIndex = 0 ∧ (∀ a, x.audios.head? = some a → p.audioLabel = a.label)
          ∧ p.captions = x.captions ∧ p.keyLabel = x.keyLabel

/-- What a TUNE that is taken leaves of the output part (R57), and that the verdict has been evaluated and a notice posted. -/
def tunedOutput (s : State) (c : Block) (w : PresId) (service : Nat) : Prop :=
  (c.out (presOut w)).restLevel = .awake ∧ (c.out (presOut w)).tolerance = none ∧ (c.out (presOut w)).hold = false
    ∧ (c.out (presOut w)).restSeconds = 0 ∧ (c.out (presOut w)).override = none ∧ (c.out (presOut w)).stopAt = (s.out (presOut w)).stopAt
    ∧ (c.out (presOut w)).fault = (s.out (presOut w)).fault ∧ (c.out (presOut w)).current = s.currentFor service
    ∧ UpToDate c (presOut w) ∧ (∃ n ∈ c.link.notices, n.key = .output (presOut w)) ∧ ∀ o, o ≠ presOut w → c.out o = s.out o

/-- The recall stack after a service part has been left (R59). -/
def pushedRecalls (s : State) (w : PresId) (left : Option ServicePart) : List RecallRecord :=
  match left with
  | none => s.recalls w
  | some p =>
    (⟨p.service, p.version, p.video, p.audioIndex, p.audioLabel, p.captions, p.keyLabel,
      p.slot.bind fun r => (s.slot r.slot).lastVersion⟩ :: (s.recalls w).filter fun r => decide (r.service ≠ p.service)).take 6

/-- TUNE by the recall or the cold path, where a tuner can be had: the output holds the granted tuner, lists the labels of the new service there and uses its
slot, has given up its old tuner, listing and slot where they are others, has pushed its old service, and its verdict is evaluated.  That a TUNE to its own service, after it lost its tuner, takes the cold path, leaves
no service to push and ends the override is the model's choice (log entry 20).  Without a tuner it is refused NO TUNER. -/
def Claims.TuneTakesUpTheService : Prop :=
  ∀ (h : Head) (w : PresId) (service : Nat) (x : Service) (s : State), Heard h s → s.link.device = .running →
    1 ≤ service → service ≤ 9999 → s.guide.service? service = some x →
    let left := (s.out (presOut w)).part
    let own := left.map (·.service) = some service
    (own → (s.out (presOut w)).restLevel = .awake ∧ left.bind (·.tuner) = none) →
    ((s.warm w).part.map (·.service) = some service → own ∨ (s.warm w).state = .empty ∨ (s.warm w).state = .cold) →
    (((s.guide.mux? x.muxIndex).bind fun m => chooseTuner s.pool .primary m) = none → Refuses (.tune h w.val service) s .noTuner)
    ∧ ∀ m t g, s.guide.mux? x.muxIndex = some m → chooseTuner s.pool .primary m = some (t, g) →
        ∃ c p, Acks (.tune h w.val service) s c ∧ TakesUpOnly s.toBlock c ∧ (c.out (presOut w)).part = some p
          ∧ builtPart s (!decide own) w x p ∧ p.signal = some (grantedSignal s.toBlock t g)
          ∧ Holding (.out (presOut w)) s.toBlock c p t g m ∧ tunedOutput s c w service
          ∧ c.recalls w = pushedRecalls s w (if own then none else left)
          ∧ ∀ v, v ≠ w → c.recalls v = s.recalls v

/-- TUNE: its checks in order, and the recall and cold paths with what follows them. -/
def Obligations.TuneTakesUpTheService : Prop :=
  Claims.TuneMeetsItsChecks ∧ Claims.TuneTakesUpTheService

/-- The holder entry that stands in a list after an exchange of an output with its warm context (R55 step 2). -/
def exchangedHolder (w : PresId) (h : Holder) : Holder :=
  if h.who = .ctx (.out (presOut w)) then { who := .ctx (.warm w), cls := .warm }
  else if h.who = .ctx (.warm w) then { who := .ctx (.out (presOut w)), cls := .primary }
  else h

/-- TUNE to the service of a PREPARING or READY warm context exchanges the two contexts whole: service parts, holder entries, listings and slot
users.  No order is sent.  The warm context keeps the former service where that held a tuner and is still in the table, and is EMPTY otherwise. -/
def Obligations.TuneExchangesWithTheWarmContext : Prop :=
  ∀ (h : Head) (w : PresId) (service : Nat) (q : ServicePart) (s : State), Heard h s → s.link.device = .running →
    1 ≤ service → service ≤ 9999 → s.guide.service? service ≠ none → (s.warm w).part = some q → q.service = service →
    (s.warm w).state = .preparing ∨ (s.warm w).state = .ready →
    (s.out (presOut w)).part.map (·.service) ≠ some service →
    ∃ c, Acks (.tune h w.val service) s c ∧ TakesUpOnly s.toBlock c ∧ (c.out (presOut w)).part = some q ∧ tunedOutput s c w service
      ∧ c.recalls w = pushedRecalls s w (s.out (presOut w)).part ∧ (∀ v, v ≠ w → c.recalls v = s.recalls v ∧ c.warm v = s.warm v)
      ∧ (∀ p, (s.out (presOut w)).part = some p → p.tuner ≠ none → s.guide.service? p.service ≠ none →
          (c.warm w).part = some p
          ∧ ((c.warm w).state = .ready ↔ p.signal = some .locked
              ∧ (p.keyLabel = none ∨ ∃ r, p.slot = some r ∧ (s.slot r.slot).state = .live))
          ∧ ((c.warm w).state = .ready ∨ (c.warm w).state = .preparing))
      ∧ ((∀ p, (s.out (presOut w)).part = some p → p.tuner = none ∨ s.guide.service? p.service = none) →
          c.warm w = { state := .empty, part := none })
      ∧ ((∀ p, (s.out (presOut w)).part = some p → p.tuner = none ∨ s.guide.service? p.service ≠ none) →
          c.ports = s.ports
          ∧ (∀ t, c.tuner t = { s.tuner t with holders := (s.tuner t).holders.map (exchangedHolder w) })
          ∧ (∀ i, List.Forall₂ (fun e e' : LabelEntry => e'.label = e.label ∧ e'.expect = e.expect
                ∧ ∀ d, d ∈ e'.dests ↔ d.swap (.out (presOut w)) (.warm w) ∈ e.dests) (s.table i) (c.table i))
          ∧ c.keys = { s.keys with slots := c.keys.slots }
          ∧ ∀ k, { c.slot k with users := (s.slot k).users } = s.slot k
              ∧ ∀ u, u ∈ (c.slot k).users ↔ ctxSwap (.out (presOut w)) (.warm w) u ∈ (s.slot k).users)
      ∧ (∀ p, (s.out (presOut w)).part = some p → p.tuner ≠ none → s.guide.service? p.service = none →
          ∃ swapped : KeyUnit, (∀ k, { swapped.slots.get k with users := (s.slot k).users } = s.slot k
              ∧ ∀ u, u ∈ (swapped.slots.get k).users ↔ ctxSwap (.out (presOut w)) (.warm w) u ∈ (s.slot k).users)
            ∧ swapped = { s.keys with slots := swapped.slots } ∧ c.keys = swapped.leaveRef (.warm w) p.slot)

/-- WARM meets its checks in order; service 0 empties the warm context; a target held in PREPARING or READY changes nothing; any other is taken up
with class WARM, and a refusal empties the warm context. -/
def Obligations.WarmPreparesAService : Prop :=
  ∀ (h : Head) (output service : Nat) (s : State), Heard h s → TunersConsistent s.toBlock →
    (s.link.device ≠ .running → Refuses (.warm h output service) s .notReady)
    ∧ (s.link.device = .running →
      (4 ≤ output ∨ 9999 < service → Refuses (.warm h output service) s .badArgument)
      ∧ ∀ w : PresId, output = w.val → service ≤ 9999 →
        (service ≠ 0 → (s.out (presOut w)).part.map (·.service) = some service → Refuses (.warm h output service) s .badArgument)
        ∧ (service = 0 → (s.warm w).state = .empty → AcksIdly (.warm h output service) s)
        ∧ (service = 0 → (s.warm w).state ≠ .empty → ∃ c, Acks (.warm h output service) s c ∧ TakesUpOnly s.toBlock c
            ∧ c.warm w = { state := .empty, part := none } ∧ GivenUp (.warm w) s.toBlock c ∧ SlotLeft (.warm w) s.toBlock c
            ∧ (∃ n ∈ c.link.notices, n.key = .warm w) ∧ c.engines = { s.engines with warms := c.engines.warms }
            ∧ ∀ v, v ≠ w → c.warm v = s.warm v)
        ∧ (service ≠ 0 → (s.out (presOut w)).part.map (·.service) ≠ some service →
          (s.guide.service? service = none → Refuses (.warm h output service) s .unknownService)
          ∧ ∀ x, s.guide.service? service = some x →
            let held := (s.warm w).part.map (·.service) = some service ∧ ((s.warm w).state = .preparing ∨ (s.warm w).state = .ready)
            (held → AcksIdly (.warm h output service) s)
            ∧ (¬ held → ((s.guide.mux? x.muxIndex).bind fun m => chooseTuner s.pool .warm m) = none →
                ∃ c, exec (.warm h output service) s = .next (s.after h (.refused .noTuner) c) ∧ TakesUpOnly s.toBlock c
                  ∧ c.warm w = { state := .empty, part := none } ∧ GivenUp (.warm w) s.toBlock c ∧ SlotLeft (.warm w) s.toBlock c
                  ∧ c.engines = { s.engines with warms := c.engines.warms } ∧ ∀ v, v ≠ w → c.warm v = s.warm v)
            ∧ (¬ held → ∀ m t g, s.guide.mux? x.muxIndex = some m → chooseTuner s.pool .warm m = some (t, g) →
                ∃ c p, Acks (.warm h output service) s c ∧ TakesUpOnly s.toBlock c ∧ (c.warm w).part = some p
                  ∧ builtPart s false w x p ∧ p.signal = some (grantedSignal s.toBlock t g) ∧ Holding (.warm w) s.toBlock c p t g m
                  ∧ ((c.warm w).state = .ready ↔ p.signal = some .locked
                      ∧ (p.keyLabel = none ∨ ∃ r, p.slot = some r ∧ (c.slot r.slot).state = .live))
                  ∧ ((c.warm w).state = .ready ∨ (c.warm w).state = .preparing)
                  ∧ c.engines = { s.engines with warms := c.engines.warms } ∧ ∀ v, v ≠ w → c.warm v = s.warm v)))

/-- AUDIO and BIND: each meets its checks in order, changes nothing for the present index or profile, and otherwise changes the audio index and label
with the listing, or the bound profile with the verdict evaluated against it.  That R0 and R1 have the ids 4 and 5 in AUDIO, and that ids from 6 on are
refused, is the model's reading (log entry 7). -/
def Obligations.AudioAndBindAreTaken : Prop :=
  (∀ (h : Head) (output index : Nat) (s : State), Heard h s →
    (6 ≤ output ∨ 3 < index → Refuses (.audio h output index) s .badArgument)
    ∧ ∀ o : OutId, output = o.val → index ≤ 3 →
      ((s.out o).delivery = .off ∨ (s.out o).delivery = .restDeep → Refuses (.audio h output index) s .wrongState)
      ∧ ((s.out o).delivery ≠ .off → (s.out o).delivery ≠ .restDeep → ∀ p, (s.out o).part = some p →
        (s.guide.service? p.service = none → Refuses (.audio h output index) s .unknownService)
        ∧ ∀ x, s.guide.service? p.service = some x →
          (x.audios[index]? = none → Refuses (.audio h output index) s .badArgument)
          ∧ ∀ a, x.audios[index]? = some a →
            (p.audioIndex = index → AcksIdly (.audio h output index) s)
            ∧ (p.audioIndex ≠ index → ∃ c, Acks (.audio h output index) s c
                ∧ c.out o = { s.out o with part := some { p with audioIndex := index, audioLabel := a.label } }
                ∧ (∀ u, u ≠ o → c.out u = s.out u)
                ∧ c = { s.toBlock with
                        engines := { s.engines with outputs := c.engines.outputs }
                        filter := { s.filter with tables := c.filter.tables } }
                ∧ (∀ i, p.tuner ≠ some i → c.table i = s.table i)
                ∧ ∀ i, p.tuner = some i → TablesOrdered s.toBlock →
                    (∀ l r, (∃ e ∈ c.table i, e.label = l ∧ .ctx (.out o) r ∈ e.dests) ↔
                      (l = p.video ∧ r = .video) ∨ (l = a.label ∧ r = .audio) ∨ (p.captions = some l ∧ r = .captions)
                        ∨ (p.keyLabel = some l ∧ r = .key))
                    ∧ (∀ e ∈ s.table i, ∀ d ∈ e.dests, (∀ r, d ≠ .ctx (.out o) r) → ∃ e' ∈ c.table i, e'.label = e.label ∧ d ∈ e'.dests)
                    ∧ ∀ e ∈ s.table i, ∀ e' ∈ c.table i, e'.label = e.label → e'.expect = e.expect)))
  ∧ ∀ (h : Head) (output profile : Nat) (s : State), Heard h s →
    (4 ≤ output ∨ 8 ≤ profile → Refuses (.bind h output profile) s .badArgument)
    ∧ ∀ (w : PresId) (p : ProfileId), output = w.val → profile = p.val →
      (s.boundProfile w = p → AcksIdly (.bind h output profile) s)
      ∧ (s.boundProfile w ≠ p → ∃ b c, Acks (.bind h output profile) s c
          ∧ b = { s.toBlock with engines := { s.engines with bound := b.engines.bound } }
          ∧ b.boundProfile w = p ∧ (∀ v, v ≠ w → b.boundProfile v = s.boundProfile v)
          ∧ EvaluatesOnly [presOut w] b c ∧ UpToDate c (presOut w)
          ∧ (c.out (presOut w)).override = (s.out (presOut w)).override ∧ (c.out (presOut w)).part = (s.out (presOut w)).part)

/-- STOP AT: a time not yet due, or none, is stored; one that is due at once is cleared and acts by the output's delivery state, taking an awake
output to REST LIGHT and clearing the hold flag of a light rest. -/
def Claims.StopAtActsWhenDue : Prop :=
  ∀ (h : Head) (output : Nat) (time : Option Nat) (s : State), Heard h s →
    (4 ≤ output → Refuses (.stopAt h output time) s .badArgument)
    ∧ ∀ w : PresId, output = w.val →
      ((s.out (presOut w)).delivery = .off → Refuses (.stopAt h output time) s .wrongState)
      ∧ ((s.out (presOut w)).delivery ≠ .off → ∃ c, Acks (.stopAt h output time) s c
        ∧ c = { s.toBlock with
                engines := { s.engines with outputs := c.engines.outputs }, link := { s.link with notices := c.link.notices } }
        ∧ (∀ o, o ≠ presOut w → c.out o = s.out o) ∧ PostsOnly (fun k => k = .output (presOut w)) s.toBlock c
        ∧ let due := ∃ t u, time = some t ∧ s.guide.time.utc = some u ∧ t ≤ u
          let x := s.out (presOut w)
          (¬ due → c.out (presOut w) = { x with stopAt := time } ∧ c.link = s.link)
          ∧ (due → x.delivery = .restDeep ∨ x.delivery = .contained → c.out (presOut w) = { x with stopAt := none } ∧ c.link = s.link)
          ∧ (due → x.delivery = .restLight → c.out (presOut w) = { x with stopAt := none, hold := false } ∧ c.link = s.link)
          ∧ (due → x.delivery ≠ .restDeep → x.delivery ≠ .contained → x.delivery ≠ .restLight →
              ∃ v, c.out (presOut w) = { x with
                stopAt := none, restLevel := .light, tolerance := some v, hold := false, restSeconds := 0, verdict := none,
                delivery := .restLight } ∧ spanLength v = 0 ∧ ∃ n ∈ c.link.notices, n.key = .output (presOut w)))

/-- REST: refused WRONG STATE for an OFF or CONTAINED output; otherwise the output takes the tolerance and the hold flag, and enters REST DEEP, giving
up tuner and slot, where the tolerance reaches the deep threshold and it is not there yet, else REST LIGHT where it is not in REST DEEP. -/
def Claims.RestChoosesALevel : Prop :=
  ∀ (h : Head) (output : Nat) (tolerance : Span) (hold : Bool) (s : State), Heard h s → DeliveryFollows s.toBlock →
    (4 ≤ output → Refuses (.rest h output tolerance hold) s .badArgument)
    ∧ ∀ w : PresId, output = w.val →
      let x := s.out (presOut w)
      let deep := spanLength s.engines.deepThreshold ≤ spanLength tolerance
      (x.delivery = .off ∨ x.delivery = .contained → Refuses (.rest h output tolerance hold) s .wrongState)
      ∧ (x.delivery = .restDeep → ∃ c, Acks (.rest h output tolerance hold) s c
          ∧ c = s.toBlock.setOut (presOut w) { x with tolerance := some tolerance, hold := hold })
      ∧ (x.delivery ≠ .off → x.delivery ≠ .contained → x.delivery ≠ .restDeep → ¬ deep → ∃ c, Acks (.rest h output tolerance hold) s c
          ∧ c.out (presOut w) = { x with
              restLevel := .light, tolerance := some tolerance, hold := hold, restSeconds := 0, verdict := none, delivery := .restLight }
          ∧ (∀ o, o ≠ presOut w → c.out o = s.out o)
          ∧ c = { s.toBlock with
                  engines := { s.engines with outputs := c.engines.outputs }, link := { s.link with notices := c.link.notices } }
          ∧ PostsOnly (fun k => k = .output (presOut w)) s.toBlock c)
      ∧ (x.delivery ≠ .off → x.delivery ≠ .contained → x.delivery ≠ .restDeep → deep → ∃ c, Acks (.rest h output tolerance hold) s c
          ∧ TakesUpOnly s.toBlock c ∧ GivenUp (.out (presOut w)) s.toBlock c ∧ SlotLeft (.out (presOut w)) s.toBlock c
          ∧ c.out (presOut w) = { x with
              part := x.part.map fun p => { p with tuner := none, signal := none, slot := none }
              restLevel := .deep, tolerance := some tolerance, hold := hold, restSeconds := 0, override := none, verdict := none
              delivery := .restDeep }
          ∧ c.engines = { s.engines with outputs := c.engines.outputs } ∧ (∀ o, o ≠ presOut w → c.out o = s.out o)
          ∧ ∃ n ∈ c.link.notices, n.key = .output (presOut w))

/-- STOP AT and REST, in every delivery state of their output. -/
def Obligations.StopAtAndRestAreTaken : Prop :=
  Claims.StopAtActsWhenDue ∧ Claims.RestChoosesALevel

/-- WAKE: from REST LIGHT the output stops resting and its verdict is evaluated; from REST DEEP it takes up its kept service as a TUNE would, pushes
nothing, and is refused NOT READY, UNKNOWN SERVICE or NO TUNER with everything kept. -/
def Claims.WakeBringsAnOutputBack : Prop :=
  ∀ (h : Head) (output : Nat) (s : State), Heard h s →
    (4 ≤ output → Refuses (.wake h output) s .badArgument)
    ∧ ∀ w : PresId, output = w.val →
      let x := s.out (presOut w)
      (x.restLevel = .awake → Refuses (.wake h output) s .wrongState)
      ∧ (x.restLevel = .light → ∃ c, Acks (.wake h output) s c
          ∧ EvaluatesOnly [presOut w] s.toBlock c ∧ UpToDate c (presOut w) ∧ (c.out (presOut w)).restLevel = .awake
          ∧ (c.out (presOut w)).tolerance = none ∧ (c.out (presOut w)).hold = false ∧ (c.out (presOut w)).restSeconds = 0
          ∧ (c.out (presOut w)).part = x.part ∧ (c.out (presOut w)).stopAt = x.stopAt ∧ (c.out (presOut w)).override = x.override)
      ∧ (x.restLevel = .deep →
          (s.link.device ≠ .running → Refuses (.wake h output) s .notReady)
          ∧ (s.link.device = .running → ∀ p, x.part = some p →
              (s.guide.service? p.service = none → Refuses (.wake h output) s .unknownService)
              ∧ ∀ y, s.guide.service? p.service = some y →
                (((s.guide.mux? y.muxIndex).bind fun m => chooseTuner s.pool .primary m) = none → Refuses (.wake h output) s .noTuner)
                ∧ ∀ m t g, s.guide.mux? y.muxIndex = some m → chooseTuner s.pool .primary m = some (t, g) →
                  ∃ c q, Acks (.wake h output) s c ∧ TakesUpOnly s.toBlock c ∧ (c.out (presOut w)).part = some q
                    ∧ builtPart s true w y q ∧ q.signal = some (grantedSignal s.toBlock t g)
                    ∧ Holding (.out (presOut w)) s.toBlock c q t g m ∧ UpToDate c (presOut w) ∧ (c.out (presOut w)).restLevel = .awake
                    ∧ (c.out (presOut w)).tolerance = none ∧ (c.out (presOut w)).hold = false ∧ (c.out (presOut w)).restSeconds = 0
                    ∧ (c.out (presOut w)).current = s.currentFor p.service ∧ (c.out (presOut w)).stopAt = x.stopAt
                    ∧ c.engines.recalls = s.engines.recalls ∧ ∀ o, o ≠ presOut w → c.out o = s.out o))

/-- CLOSE: refused WRONG STATE for a CONTAINED output, nothing for an OFF one; otherwise the service is pushed, tuner and slot are given up, and the
output is OFF with everything but its fault block cleared. -/
def Claims.CloseTurnsAnOutputOff : Prop :=
  ∀ (h : Head) (output : Nat) (s : State), Heard h s →
    (4 ≤ output → Refuses (.close h output) s .badArgument)
    ∧ ∀ w : PresId, output = w.val →
      let x := s.out (presOut w)
      (x.delivery = .contained → Refuses (.close h output) s .wrongState)
      ∧ (x.delivery = .off → AcksIdly (.close h output) s)
      ∧ (x.delivery ≠ .contained → x.delivery ≠ .off → ∃ c, Acks (.close h output) s c
          ∧ TakesUpOnly s.toBlock c ∧ GivenUp (.out (presOut w)) s.toBlock c ∧ SlotLeft (.out (presOut w)) s.toBlock c
          ∧ c.out (presOut w) = { part := none, current := none, verdict := none, delivery := .off, restLevel := .awake, tolerance := none,
                                  hold := false, restSeconds := 0, stopAt := none, override := none, silence := 0, fault := x.fault }
          ∧ (∀ o, o ≠ presOut w → c.out o = s.out o) ∧ c.engines.warms = s.engines.warms
          ∧ c.recalls w = pushedRecalls s w x.part ∧ (∀ v, v ≠ w → c.recalls v = s.recalls v)
          ∧ ∃ n ∈ c.link.notices, n.key = .output (presOut w))

/-- WAKE and CLOSE, in every state of their output. -/
def Obligations.WakeAndCloseAreTaken : Prop :=
  Claims.WakeBringsAnOutputBack ∧ Claims.CloseTurnsAnOutputOff

/-! ## Cells -/

/-- A cell is dropped without effect on the filler label, with a reserved scramble value, on a tuner that is not LOCKED, or on a label without an
entry. -/
def Claims.UnwantedCellsAreDropped : Prop :=
  ∀ (i : TunerId) (c : Cell) (s : State),
    c.label = 8191 ∨ c.scramble = .reserved ∨ (s.tuner i).state ≠ .locked ∨ (∀ e ∈ s.table i, e.label ≠ c.label) →
    Makes (.cellArrival i c) s s.toBlock

/-- Any other cell sets its entry's expectation to its count plus one, modulo 16, raises CONTINUITY once on every output its entry names where its count
differs from the expectation, and sends one copy to each destination of the entry, after those of the cells before it and with the tags of the rule.  That
the copies wait in a list, and that the key role ones of one cell are one copy with the contexts they are for, is the model's choice (log entry 3); that of the
copies of a cell for one output or warm context the first is marked so, for KEY GAP, is the model's own (log entry 37). -/
def Claims.WantedCellsAreRouted : Prop :=
  ∀ (i : TunerId) (c : Cell) (e : LabelEntry) (s : State), TablesOrdered s.toBlock →
    c.label ≠ 8191 → c.scramble ≠ .reserved → (s.tuner i).state = .locked → e ∈ s.table i → e.label = c.label →
    ∃ b, Makes (.cellArrival i c) s b
      ∧ b = { s.toBlock with
              link := { s.link with notices := b.link.notices }
              filter := b.filter
              engines := { s.engines with outputs := b.engines.outputs }
              purchases := b.purchases }
      ∧ OffersOnly s.toBlock b
      ∧ b.table i = (s.table i).map (fun x => if x.label = c.label then { x with expect := some ((c.count + 1) % 16) } else x)
      ∧ (∀ k, k ≠ i → b.table k = s.table k)
      ∧ (∀ o, let named := ∃ r, Dest.ctx (.out o) r ∈ e.dests
          (named ∧ (∃ x, e.expect = some x ∧ c.count ≠ x) →
            FaultClass.continuity ∉ (s.out o).fault.mask → FaultClass.continuity ∈ (b.out o).fault.status)
          ∧ (¬ named ∨ e.expect = none ∨ e.expect = some c.count → b.out o = s.out o))
      ∧ ∃ new, b.filter.copies = s.filter.copies ++ new
          ∧ new.Nodup ∧ (∀ x r, r ≠ .key → ((∃ m, Copy.output i x r c m ∈ new) ↔ Dest.ctx x r ∈ e.dests))
          ∧ (∀ pre x r m post, new = pre ++ Copy.output i x r c m :: post →
              (∀ k, Copy.output i x r c k ∉ pre) ∧ m ≠ .raised ∧ (m = .first ↔ ∀ q k, Copy.output i x q c k ∉ pre))
          ∧ (Copy.entitlement i c ∈ new ↔ Dest.entitlement ∈ e.dests) ∧ (Copy.guide i c ∈ new ↔ Dest.guide ∈ e.dests)
          ∧ (∀ m l, Copy.key i m l c ∈ new →
              m = (s.tuner i).mux ∧ l.Nodup ∧ (∀ x, x ∈ l ↔ Dest.ctx x .key ∈ e.dests) ∧ new.count (Copy.key i m l c) = 1)
          ∧ ((∃ x, Dest.ctx x .key ∈ e.dests) ↔ ∃ m l, Copy.key i m l c ∈ new)
          ∧ ∀ x ∈ new, (∃ d r m, x = Copy.output i d r c m ∧ r ≠ .key) ∨ x = Copy.entitlement i c ∨ x = Copy.guide i c ∨ ∃ m l, x = Copy.key i m l c

/-- A cell on an input is dropped without effect, or checked for continuity and copied to its destinations. -/
def Obligations.CellsAreDroppedOrRouted : Prop :=
  Claims.UnwantedCellsAreDropped ∧ Claims.WantedCellsAreRouted

/-- A key slot after a cell of a parity has been deciphered: that parity is in use, and on a turn the key of the parity left is spent (R95). -/
def turnedTo (x : KeySlot) (q : Parity) : KeySlot :=
  { x with
    parity := some q
    evenKey := if x.parity = some .even ∧ q = .odd then none else x.evenKey
    oddKey := if x.parity = some .odd ∧ q = .even then none else x.oddKey }

/-- A cell of a context has raised KEY GAP (R184; log entry 37): of the copies that wait, those of the context from its input that come before the first copy of
its next cell are marked, each in its place, and nothing else changes. -/
def gapNoted (i : TunerId) (ctx : CtxId) (b c : Block) : Prop :=
  let own := fun x : Copy => ∃ r d m, x = .output i ctx r d m
  let opens := fun x : Copy => ∃ r d, x = .output i ctx r d .first
  c = { b with filter := { b.filter with copies := c.filter.copies } } ∧ c.filter.copies.length = b.filter.copies.length
    ∧ ∀ pre x post, b.filter.copies = pre ++ x :: post → ∃ y, c.filter.copies[pre.length]? = some y
        ∧ ((∀ z ∈ pre, ¬ opens z) → own x → ¬ opens x → ∃ r d m, x = .output i ctx r d m ∧ y = .output i ctx r d .raised)
        ∧ ((∃ z ∈ pre, opens z) ∨ ¬ own x ∨ opens x → y = x)

/-- A copy is taken only when it is the next one for its context from its input: a command that names any other does nothing (log entries 3 and 10).  A copy
for a warm context, or for an output that is not LIVE, is discarded.  For a LIVE presentation output, a CLEAR cell goes out on its port; an EVEN
or ODD one goes out deciphered with its slot's key of that parity, the key of the parity left being spent; without that key on a LIVE slot it is dropped
with KEY GAP, and without a slot, or on a slot that is not LIVE, it is dropped in silence.  KEY GAP is raised once per cell: the copy that raises it marks the
further copies of its cell, which raise nothing more (log entry 37).  A cell on the video label ends the silence. -/
def Obligations.CopiesReachTheScreen : Prop :=
  (∀ (i : TunerId) (x : CtxId) (r : Role) (c : Cell) (s : State), (∀ m, ¬ NextCopy s (.output i x r c m)) →
      Makes (.outputCellCopy ⟨i, x⟩ r c) s s.toBlock)
  ∧ (∀ (i : TunerId) (w : PresId) (r : Role) (c : Cell) (m : CopyMark) (s : State), NextCopy s (.output i (.warm w) r c m) →
      Makes (.outputCellCopy ⟨i, .warm w⟩ r c) s (copyTaken s (.output i (.warm w) r c m)))
  ∧ (∀ (i : TunerId) (o : OutId) (r : Role) (c : Cell) (m : CopyMark) (s : State), NextCopy s (.output i (.out o) r c m) →
      (s.out o).delivery ≠ .live ∨ (s.out o).part = none →
      Makes (.outputCellCopy ⟨i, .out o⟩ r c) s (copyTaken s (.output i (.out o) r c m)))
  ∧ ∀ (i : TunerId) (w : PresId) (r : Role) (c : Cell) (m : CopyMark) (p : ServicePart) (s : State), r ≠ .key → (s.out (presOut w)).part = some p →
      (s.out (presOut w)).delivery = .live → NextCopy s (.output i (.out (presOut w)) r c m) →
      let command := Instr.outputCellCopy ⟨i, .out (presOut w)⟩ r c
      let heard := (copyTaken s (.output i (.out (presOut w)) r c m)).setOut (presOut w)
        { s.out (presOut w) with silence := if c.label = p.video then 0 else (s.out (presOut w)).silence }
      let sent := fun (b : Block) (x : Cell) =>
        { b with ports := { s.ports with presentation := vset s.ports.presentation w (s.ports.presentation.get w ++ [x]) } }
      (c.scramble = .clear → Makes command s (sent heard c))
      ∧ (c.scramble = .reserved ∨ (c.scramble ≠ .clear ∧ p.slot = none) → Makes command s heard)
      ∧ ∀ k q, (c.scramble = .even ∧ q = Parity.even ∨ c.scramble = .odd ∧ q = Parity.odd) → p.slot = some k →
          let x := s.slot k.slot
          let key := match q with | .even => x.evenKey | .odd => x.oddKey
          (x.state ≠ .live → Makes command s heard)
          ∧ (x.state = .live → ∀ v, key = some v →
              Makes command s
                (sent { heard with keys := { s.keys with slots := vset s.keys.slots k.slot (turnedTo x q) } }
                  { c with scramble := .clear, image := Config.decipher v c.image }))
          ∧ (x.state = .live → key = none →
              (m = .raised → Makes command s heard)
              ∧ (m ≠ .raised → ∃ noted b, gapNoted i (.out (presOut w)) heard noted ∧ Makes command s b
                  ∧ EvaluatesOnly [presOut w] noted b
                  ∧ (FaultClass.keyGap ∉ (s.out (presOut w)).fault.mask → FaultClass.keyGap ∈ (b.out (presOut w)).fault.status)
                  ∧ (FaultClass.keyGap ∈ (s.out (presOut w)).fault.mask → b = noted)))

/-- What passes of a cell of a LIVE output (R75, R95): a CLEAR cell as it is, an EVEN or ODD one deciphered with the key of its parity in the output's LIVE
slot. -/
def passes (s : State) (p : ServicePart) (c x : Cell) : Prop :=
  (c.scramble = .clear ∧ x = c)
    ∨ ∃ k v, p.slot = some k ∧ (s.slot k.slot).state = .live
        ∧ (c.scramble = .even ∧ (s.slot k.slot).evenKey = some v ∨ c.scramble = .odd ∧ (s.slot k.slot).oddKey = some v)
        ∧ x = { c with scramble := .clear, image := Config.decipher v c.image }

/-- The Key Unit after a cell of an output has passed: a CLEAR cell leaves it as it is, an EVEN or ODD one turns the output's slot to its parity (R95). -/
def keysAfter (s : State) (p : ServicePart) (c : Cell) : KeyUnit :=
  let turn := fun (k : SlotRef) (q : Parity) => { s.keys with slots := vset s.keys.slots k.slot (turnedTo (s.slot k.slot) q) }
  match c.scramble, p.slot with
  | .even, some k => turn k .even
  | .odd, some k => turn k .odd
  | _, _ => s.keys

/-- A record output after a cell has been copied to it: one on any label that it lists ends the silence (R76). -/
def heardBy (x : Output) (p : ServicePart) (c : Cell) : Output :=
  { x with silence := if c.label = p.video ∨ c.label = p.audioLabel ∨ p.captions = some c.label then 0 else x.silence }

/-- A cell that passes at a LIVE record output whose writer is WRITING is stored as a unit of 192 bytes, the stamp and the cell, at the place of the next unit
of the FILLING half; every byte of buffer memory outside that place is as it was.  The output's slot turns to the parity of a scrambled cell, and a cell on a
listed label ends the silence; no other output, context or stack changes.  The half that this fills becomes FULL, with a RING notice, and the writer
goes on in the other half or waits.  The copy taken is the next one for the output from its input (log entry 3); a cell is stored as FREE where the current
event is not stored, which is the model's choice (log entry 13). -/
def Claims.RecordedCellsAreStored : Prop :=
  ∀ (i : TunerId) (r : RecId) (role : Role) (c x : Cell) (m : CopyMark) (p : ServicePart) (f : FieldSpec) (k : HalfId) (s : State), role ≠ .key →
    (s.out (recOut r)).part = some p → (s.out (recOut r)).delivery = .live → passes s p c x →
    (s.ring r).field = some f → (s.ring r).writer = .writing k → BufferCanonical s.toBlock →
    NextCopy s (.output i (.out (recOut r)) role c m) →
    let half := (s.ring r).half k
    let copy := ((s.currentRecord (s.out (recOut r))).map (·.copy)).getD .free
    let base := f.base * 65536 + (k.val * f.capacity + half.count) * 192
    ∃ b, Makes (.outputCellCopy ⟨i, .out (recOut r)⟩ role c) s b
      ∧ (∀ n, n < 4 → b.ringWriter.memory.read (base + n) = some (BitVec.ofNat 8 (s.ringWriter.stamp / 256 ^ n)))
      ∧ (∀ n, n < 188 → b.ringWriter.memory.read (base + 4 + n) = some (x.image.extractLsb' (8 * n) 8))
      ∧ (∀ a, a < base ∨ base + 192 ≤ a → b.ringWriter.memory.read a = s.ringWriter.memory.read a)
      ∧ b.ringWriter.stamp = s.ringWriter.stamp ∧ (∀ v, v ≠ r → b.ring v = s.ring v)
      ∧ (b.ring r).field = some f ∧ (b.ring r).drain = (s.ring r).drain
      ∧ ((b.ring r).half k).count = half.count + 1 ∧ ((b.ring r).half k).last = some s.ringWriter.stamp
      ∧ ((b.ring r).half k).first = (if half.count = 0 then some s.ringWriter.stamp else half.first)
      ∧ (∀ y, ((b.ring r).half k).copy = some y → copyCode copy ≤ copyCode y ∧ ∀ z, half.copy = some z → copyCode z ≤ copyCode y)
      ∧ (((b.ring r).half k).copy = some copy ∨ ((b.ring r).half k).copy = half.copy)
      ∧ (half.count + 1 ≠ f.capacity → ((b.ring r).half k).state = half.state ∧ (b.ring r).writer = .writing k
          ∧ (b.ring r).half (otherHalf k) = (s.ring r).half (otherHalf k) ∧ b.link = s.link)
      ∧ (half.count + 1 = f.capacity → ((b.ring r).half k).state = .full ∧ (b.ring r).lastFilled = some k
          ∧ (∃ n ∈ b.link.notices, n.key = .ring r)
          ∧ (((s.ring r).half (otherHalf k)).state = .free → (b.ring r).writer = .writing (otherHalf k)
              ∧ (b.ring r).half (otherHalf k) = { state := .filling, count := 0, copy := none, first := none, last := none })
          ∧ (((s.ring r).half (otherHalf k)).state ≠ .free → (b.ring r).writer = .waiting (some (otherHalf k)) false
              ∧ (b.ring r).half (otherHalf k) = (s.ring r).half (otherHalf k)))
      ∧ b = { copyTaken s (.output i (.out (recOut r)) role c m) with
              link := { s.link with notices := b.link.notices }
              engines := { s.engines with outputs := b.engines.outputs }
              keys := keysAfter s p c
              ringWriter := b.ringWriter }
      ∧ b.out (recOut r) = heardBy (s.out (recOut r)) p c ∧ ∀ o, o ≠ recOut r → b.out o = s.out o

/-- The first cell that reaches a waiting writer is discarded with RING OVERRUN, and the later ones of the same wait in silence; neither is stored.  Slot and
silence are as for a stored cell.  The copy taken is the next one for the output from its input (log entry 3). -/
def Claims.WaitingWritersDiscard : Prop :=
  ∀ (i : TunerId) (r : RecId) (role : Role) (c x : Cell) (m : CopyMark) (p : ServicePart) (on : Option HalfId) (overrun : Bool) (s : State), role ≠ .key →
    (s.out (recOut r)).part = some p → (s.out (recOut r)).delivery = .live → passes s p c x →
    (s.ring r).writer = .waiting on overrun → NextCopy s (.output i (.out (recOut r)) role c m) →
    let passed := { (copyTaken s (.output i (.out (recOut r)) role c m)).setOut (recOut r) (heardBy (s.out (recOut r)) p c) with
      keys := keysAfter s p c }
    let discarded := passed.setRing r { s.ring r with writer := .waiting on true }
    ∃ b, Makes (.outputCellCopy ⟨i, .out (recOut r)⟩ role c) s b
      ∧ EvaluatesOnly [recOut r] discarded b
      ∧ (b.out (recOut r)).silence = (heardBy (s.out (recOut r)) p c).silence
      ∧ (overrun = false → FaultClass.ringOverrun ∉ (s.out (recOut r)).fault.mask →
          FaultClass.ringOverrun ∈ (b.out (recOut r)).fault.status)
      ∧ (overrun = true ∨ FaultClass.ringOverrun ∈ (s.out (recOut r)).fault.mask → b = discarded)

/-- A cell of a LIVE record output that does not pass: a scrambled one without a slot, or on a slot that is not LIVE, is dropped in silence; one whose key the
LIVE slot does not hold is dropped with KEY GAP, once per cell: the copy that raises it marks the further copies of its cell, which raise nothing more (log
entry 37).  Nothing is stored or written, and a cell on any listed label ends the
silence.  The copy taken is the next one for the output from its input (log entry 3). -/
def Claims.UnpassedCellsAreNotStored : Prop :=
  ∀ (i : TunerId) (r : RecId) (role : Role) (c : Cell) (m : CopyMark) (p : ServicePart) (s : State), role ≠ .key →
    (s.out (recOut r)).part = some p → (s.out (recOut r)).delivery = .live → NextCopy s (.output i (.out (recOut r)) role c m) →
    let command := Instr.outputCellCopy ⟨i, .out (recOut r)⟩ role c
    let heard := (copyTaken s (.output i (.out (recOut r)) role c m)).setOut (recOut r) (heardBy (s.out (recOut r)) p c)
    (c.scramble = .reserved ∨ (c.scramble ≠ .clear ∧ p.slot = none) → Makes command s heard)
    ∧ ∀ k, c.scramble = .even ∨ c.scramble = .odd → p.slot = some k →
        ((s.slot k.slot).state ≠ .live → Makes command s heard)
        ∧ ((s.slot k.slot).state = .live →
            (c.scramble = .even → (s.slot k.slot).evenKey = none) → (c.scramble = .odd → (s.slot k.slot).oddKey = none) →
            (m = .raised → Makes command s heard)
            ∧ (m ≠ .raised → ∃ noted b, gapNoted i (.out (recOut r)) heard noted ∧ Makes command s b
                ∧ EvaluatesOnly [recOut r] noted b
                ∧ (FaultClass.keyGap ∉ (s.out (recOut r)).fault.mask → FaultClass.keyGap ∈ (b.out (recOut r)).fault.status)
                ∧ (FaultClass.keyGap ∈ (s.out (recOut r)).fault.mask → b = noted)))

/-- A passed cell of a record output is stored by a writing writer and discarded by a waiting one; a cell that does not pass is dropped, with KEY GAP where the
key is wanting. -/
def Obligations.RecordedCellsAreStoredOrDiscarded : Prop :=
  Claims.RecordedCellsAreStored ∧ Claims.WaitingWritersDiscard ∧ Claims.UnpassedCellsAreNotStored

/-! ## Key messages and the unwrap engine -/

/-- The key message that a cell brings, if any: its scramble field CLEAR, its start flag set, and its fields in range (R84, R85). -/
def bringsKeyMessage (c : Cell) (m : KeyMessage) : Prop :=
  c.scramble = .clear ∧ c.start = true ∧ c.keyMessage = some m
    ∧ m.serviceKeyId ≤ 255 ∧ m.version ≤ 255 ∧ m.accessClass ≤ 65535 ∧ m.event ≤ 65535

/-- Whether a slot takes a message from a label of an input: a user lists that label there in the key role, and the version is neither the last applied one
nor that of an unwrap in flight for the slot (R86). -/
def slotTakes (s : State) (i : TunerId) (label : Nat) (m : KeyMessage) (k : SlotId) : Prop :=
  (∃ u ∈ (s.slot k).users, ∃ e ∈ s.table i, e.label = label ∧ Dest.ctx u .key ∈ e.dests)
    ∧ (s.slot k).lastVersion ≠ some m.version
    ∧ ∀ w, s.keys.engine = some w → w.slot = k → w.message.version ≠ m.version

/-- What the users of a slot make of its being taken by the engine (R63, R83, R89, R158): where it enters UNWRAP from AWAIT, the outputs that use it are evaluated,
and no other output changes; where it stays as it is, none does.  No warm context changes, since one that is READY has no slot in AWAIT. -/
def slotUsersTold (k : SlotId) (b c : Block) : Prop :=
  ((b.slot k).state = .await → (∀ o, .out o ∉ (b.slot k).users → c.out o = b.out o)
      ∧ (CurrentMatches b → ∀ o, .out o ∈ (b.slot k).users → UpToDate c o))
    ∧ ((b.slot k).state ≠ .await → c.engines = b.engines ∧ c.link = b.link ∧ c.purchases = b.purchases)
    ∧ (OnTheirSlots b → WarmFollows b → c.engines.warms = b.engines.warms)
    ∧ ∀ o, OutputPosted o b c

/-- A key role copy that is not the next one of its input and label does nothing, and one that brings no key message is discarded.  A message that comes while
the engine is busy makes, for every slot that takes it, a queue entry at the end, or replaces the message of the slot's entry in its place when the version
differs; slots and engine stay as they are.  One that comes to an idle engine with nothing queued goes to the engine for the lowest slot that takes it, which
loses its mark and enters UNWRAP from AWAIT, and makes entries for the others; the outputs that use a slot from AWAIT are evaluated, and no warm context
changes.  The model's choices are that an unwrap in flight is for a slot by its number
alone (log entry 24), that the slots are offered the message in ascending order (log entry 21), and that the key role copies of one cell are one (log entry
3). -/
def Obligations.KeyMessagesAreQueued : Prop :=
  ∀ (i : TunerId) (c : Cell) (s : State),
    ((∀ mux l, ¬ NextCopy s (.key i mux l c)) → Makes (.keyMessageCell i c) s s.toBlock)
    ∧ ∀ mux l, NextCopy s (.key i mux l c) →
      ((∀ m, ¬ bringsKeyMessage c m) → Makes (.keyMessageCell i c) s (copyTaken s (.key i mux l c)))
      ∧ (∀ m w, bringsKeyMessage c m → s.keys.engine = some w → KeyQueueDistinct s.toBlock → TablesOrdered s.toBlock →
        ∃ b new, Makes (.keyMessageCell i c) s b
          ∧ b = { copyTaken s (.key i mux l c) with
                  keys := { s.keys with queue := b.keys.queue, nextArrival := s.keys.nextArrival + new.length } }
          ∧ (∃ old : List QueueEntry, b.keys.queue = old ++ new
              ∧ List.Forall₂ (fun e e' : QueueEntry =>
                  (slotTakes s i c.label m e.slot ∧ e.message.version ≠ m.version →
                    e' = { e with message := m, generation := (s.slot e.slot).generation })
                  ∧ (¬ (slotTakes s i c.label m e.slot ∧ e.message.version ≠ m.version) → e' = e)) s.keys.queue old)
          ∧ (∀ k, (∃ e ∈ new, e.slot = k) ↔ slotTakes s i c.label m k ∧ ∀ e ∈ s.keys.queue, e.slot ≠ k)
          ∧ ∀ n e, new[n]? = some e → e.message = m ∧ e.generation = (s.slot e.slot).generation ∧ e.arrival = s.keys.nextArrival + n)
      ∧ ∀ m, bringsKeyMessage c m → s.keys.engine = none → s.keys.queue = [] → TablesOrdered s.toBlock →
        ((∀ k, ¬ slotTakes s i c.label m k) → Makes (.keyMessageCell i c) s (copyTaken s (.key i mux l c)))
        ∧ ∀ k, slotTakes s i c.label m k → (∀ j, j < k → ¬ slotTakes s i c.label m j) →
          ∃ b, Makes (.keyMessageCell i c) s b
            ∧ b = { copyTaken s (.key i mux l c) with
                    link := { s.link with notices := b.link.notices }
                    engines := { s.engines with outputs := b.engines.outputs, warms := b.engines.warms }
                    keys := { b.keys with
                      retained := s.keys.retained, retention := s.keys.retention
                      nextArrival := s.keys.nextArrival + 1 + b.keys.queue.length }
                    purchases := b.purchases }
            ∧ OffersOnly s.toBlock b
            ∧ b.keys.engine = some { slot := k, generation := (s.slot k).generation, message := m }
            ∧ b.slot k = { s.slot k with mark := none, state := if (s.slot k).state = .await then .unwrap else (s.slot k).state }
            ∧ (∀ j, j ≠ k → b.slot j = s.slot j) ∧ slotUsersTold k s.toBlock b
            ∧ (∀ j, (∃ e ∈ b.keys.queue, e.slot = j) ↔ slotTakes s i c.label m j ∧ j ≠ k)
            ∧ ∀ n e, b.keys.queue[n]? = some e →
                e.message = m ∧ e.generation = (s.slot e.slot).generation ∧ e.arrival = s.keys.nextArrival + 1 + n

/-- The arbiter, on an idle engine: of the queue entries whose slot a KEYING output uses, or of all where there is none, the first goes to the engine; the
slot's mark becomes none, and a slot in AWAIT enters UNWRAP, with the outputs that use it evaluated. -/
def Obligations.ArbiterServesKeyingOutputsFirst : Prop :=
  ∀ b : Block,
    (b.keys.engine ≠ none ∨ b.keys.queue = [] → b.arbitrate = b)
    ∧ (b.keys.engine = none → b.keys.queue ≠ [] →
        let keying := fun e : QueueEntry => ∃ o, .out o ∈ (b.slot e.slot).users ∧ (b.out o).delivery = .keying
        ∃ pre e post, b.keys.queue = pre ++ e :: post
          ∧ (∀ x ∈ pre, ¬ keying x) ∧ (keying e ∨ pre = [] ∧ ∀ x ∈ post, ¬ keying x)
          ∧ b.arbitrate.keys.engine = some { slot := e.slot, generation := e.generation, message := e.message }
          ∧ b.arbitrate.keys.queue = b.keys.queue.filter (fun x => decide (x.slot ≠ e.slot))
          ∧ b.arbitrate.slot e.slot = { b.slot e.slot with
              mark := none, state := if (b.slot e.slot).state = .await then .unwrap else (b.slot e.slot).state }
          ∧ (∀ k, k ≠ e.slot → b.arbitrate.slot k = b.slot k)
          ∧ slotUsersTold e.slot b b.arbitrate ∧ OffersOnly b b.arbitrate
          ∧ b.arbitrate = { b with
              link := { b.link with notices := b.arbitrate.link.notices }
              engines := { b.engines with outputs := b.arbitrate.engines.outputs, warms := b.arbitrate.engines.warms }
              keys := { b.keys with
                slots := b.arbitrate.keys.slots, queue := b.arbitrate.keys.queue, engine := b.arbitrate.keys.engine }
              purchases := b.arbitrate.purchases })

/-- The outcome of an unwrap (R92): the refusal that it meets, or the service key it succeeds with. -/
def unwrapGives (s : State) (x : KeySlot) (m : KeyMessage) (r : Except RefusalMark ServiceKey) : Prop :=
  let key := s.account.key? s.guide.time m.serviceKeyId
  let allowed := s.account.granted s.guide.time m.accessClass = true ∨ m.event ≠ 0 ∧ ∃ u ∈ x.users, ∃ p q, s.part? u = some p
    ∧ findPurchase s.purchases p.service m.event = some q
    ∧ (q.state = .offered → q.clock < spanLength q.terms.preview)
  match r with
  | .error .noServiceKey => key = none
  | .error .notEntitled => key ≠ none ∧ ¬ allowed
  | .error .integrityFail => ∃ k, key = some k ∧ allowed ∧ k ∉ m.agreesWith
  | .ok k => key = some k ∧ allowed ∧ k ∈ m.agreesWith

/-- An unwrap's completion: without one in flight nothing happens (log entry 10).  The result is dropped where the slot has changed generation or is FREE or
RETAINED.  A refusal marks the slot, which returns from UNWRAP to AWAIT or stays LIVE on its keys; INTEGRITY FAIL raises KEY INTEGRITY on every output that
uses the slot.  A success unwraps the keys that the message carries, and the slot becomes LIVE.  The arbiter then takes a queue entry, if there is one, a newer
message for the same slot among them: the slot it takes loses its mark and enters UNWRAP from AWAIT.  The outputs that use a slot whose unwrap is refused, or that
changes state, are evaluated; a PREPARING warm context with signal LOCKED whose slot becomes LIVE goes READY, with a WARM notice, and no other changes. -/
def Obligations.UnwrapsComplete : Prop :=
  ∀ s : State,
    (s.keys.engine = none → Makes .unwrapCompletion s s.toBlock)
    ∧ ∀ w, s.keys.engine = some w →
      let x := s.slot w.slot
      ∃ b, Makes .unwrapCompletion s b ∧ (b.keys.engine = none ↔ s.keys.queue = []) ∧ OffersOnly s.toBlock b
        ∧ b = { s.toBlock with
            link := { s.link with notices := b.link.notices }
            engines := { s.engines with outputs := b.engines.outputs, warms := b.engines.warms }
            keys := { s.keys with slots := b.keys.slots, queue := b.keys.queue, engine := b.keys.engine }
            purchases := b.purchases }
        ∧ (s.keys.queue = [] → b.keys.queue = [])
        ∧ (∀ v, b.keys.engine = some v → ∃ e ∈ s.keys.queue, v = { slot := e.slot, generation := e.generation, message := e.message }
            ∧ b.keys.queue = s.keys.queue.filter (fun y => decide (y.slot ≠ e.slot)))
        ∧ (∀ o, .out o ∉ x.users → (∀ v, b.keys.engine = some v → .out o ∉ (s.slot v.slot).users) → b.out o = s.out o)
        ∧ (∀ o, OutputPosted o s.toBlock b)
        ∧ let follow := CurrentMatches s.toBlock ∧ OnTheirSlots s.toBlock
          let told := fun k : SlotId => follow → ∀ o, .out o ∈ (s.slot k).users → UpToDate b o
          let warmsStay := OnTheirSlots s.toBlock → WarmFollows s.toBlock → b.engines.warms = s.engines.warms
          let becomes := fun (k : SlotId) (y : KeySlot) =>
            ((∀ v, b.keys.engine = some v → v.slot ≠ k) → b.slot k = y)
            ∧ ((∃ v, b.keys.engine = some v ∧ v.slot = k) →
                b.slot k = { y with mark := none, state := if y.state = .await then .unwrap else y.state })
          (∀ k, k ≠ w.slot → becomes k (s.slot k))
          ∧ (∀ v, b.keys.engine = some v → (s.slot v.slot).state = .await → told v.slot)
          ∧ (x.generation ≠ w.generation ∨ x.state = .free ∨ x.state = .retained → becomes w.slot x ∧ warmsStay
              ∧ (s.keys.queue = [] → b = { s.toBlock with keys := { s.keys with engine := none } }))
          ∧ (x.generation = w.generation → x.state ≠ .free → x.state ≠ .retained →
              (∀ r, unwrapGives s x w.message (.error r) →
                becomes w.slot { x with mark := some r, state := if x.state = .unwrap then .await else x.state } ∧ told w.slot ∧ warmsStay
                ∧ (r = .integrityFail → ∀ o, .out o ∈ x.users → FaultClass.keyIntegrity ∉ (s.out o).fault.mask →
                    FaultClass.keyIntegrity ∈ (b.out o).fault.status))
              ∧ ∀ key, unwrapGives s x w.message (.ok key) →
                becomes w.slot { x with
                  evenKey := match w.message.evenKey with | some v => some (Config.unwrap key v) | none => x.evenKey
                  oddKey := match w.message.oddKey with | some v => some (Config.unwrap key v) | none => x.oddKey
                  lastVersion := some w.message.version, retain := w.message.retain, mark := none
                  state := if x.state = .unwrap then .live else x.state }
                ∧ (x.state ≠ .unwrap → warmsStay
                    ∧ (s.keys.queue = [] → b.engines = s.engines ∧ b.link = s.link ∧ b.purchases = s.purchases))
                ∧ (x.state = .unwrap → told w.slot
                    ∧ (OnTheirSlots s.toBlock → WarmFollows s.toBlock →
                        let readied := fun v => .warm v ∈ x.users ∧ (s.warm v).part.bind (·.signal) = some .locked
                        ∀ v, (readied v → b.warm v = { s.warm v with state := .ready } ∧ ∃ n ∈ b.link.notices, n.key = .warm v)
                          ∧ (¬ readied v → b.warm v = s.warm v))))

/-! ## Account -/

/-- Whether a message's address is this unit's (R103). -/
def messageForUnit (a : Account) : Address → Prop
  | .unique u => u = a.unitAddress
  | .group g lo hi => ∃ m, a.group = some m ∧ g = m.group ∧ lo ≤ m.position ∧ m.position ≤ hi
  | .all => True

/-- The entitlement message that a cell brings, if any: scramble field CLEAR, start flag set, and fields in range (R101, R102). -/
def bringsMessage (c : Cell) (m : EntitlementMessage) : Prop :=
  c.scramble = .clear ∧ c.start = true ∧ c.entitlement = some m ∧ entitlementInRange m = true

/-- What an accepted message may touch: the account, and what the evaluation of every output's verdict may (R105). -/
def AccountChange (s : State) (x : Copy) (b : Block) : Prop :=
  b = { copyTaken s x with
        link := { s.link with notices := b.link.notices }
        account := b.account
        engines := { s.engines with outputs := b.engines.outputs }
        purchases := b.purchases }
    ∧ (b.account ≠ s.account → (∃ n ∈ b.link.notices, n.key = .account) ∧ ∀ o, UpToDate b o)
    ∧ PostsOnly (fun k => k = .account ∨ k = .purchase ∨ ∃ o, k = .output o ∨ k = .fault o) s.toBlock b

/-- An entitlement copy that is not the next one of its input and label does nothing (log entry 3); one that brings no message, or one for another unit, is
discarded.  One for this unit that fails its check is counted, with an ACCOUNT
notice; a GROUP ASSIGN or CLEAR ACCOUNT that is not addressed UNIQUE does nothing. -/
def Claims.EntitlementMessagesAreScreened : Prop :=
  ∀ (i : TunerId) (c : Cell) (s : State),
    (¬ NextCopy s (.entitlement i c) → Makes (.entitlementMessageCell i c) s s.toBlock)
    ∧ (NextCopy s (.entitlement i c) → (∀ m, ¬ bringsMessage c m) → Makes (.entitlementMessageCell i c) s (copyTaken s (.entitlement i c)))
    ∧ ∀ m, NextCopy s (.entitlement i c) → bringsMessage c m →
      (¬ messageForUnit s.account m.address → Makes (.entitlementMessageCell i c) s (copyTaken s (.entitlement i c)))
      ∧ (messageForUnit s.account m.address → m.genuine = false → ∃ b, Makes (.entitlementMessageCell i c) s b
          ∧ b = { copyTaken s (.entitlement i c) with
                  link := { s.link with notices := b.link.notices }
                  account := { s.account with integrityFailures := min (s.account.integrityFailures + 1) 65535 } }
          ∧ PostsOnly (fun k => k = .account) s.toBlock b ∧ ∃ n ∈ b.link.notices, n.key = .account)
      ∧ (messageForUnit s.account m.address → m.genuine = true → (∀ u, m.address ≠ .unique u) →
          m.kind = .clearAccount ∨ (∃ g p, m.kind = .groupAssign g p) →
          Makes (.entitlementMessageCell i c) s (copyTaken s (.entitlement i c)))

/-- GRANT, REVOKE, SERVICE KEY and GROUP ASSIGN for this unit set their entry, replacing one in a full table by the rule of its kind; whatever changes the
account posts an ACCOUNT notice and evaluates every output, and what changes nothing posts nothing. -/
def Claims.EntitlementMessagesApply : Prop :=
  ∀ (i : TunerId) (c : Cell) (m : EntitlementMessage) (s : State), bringsMessage c m → messageForUnit s.account m.address → m.genuine = true →
    NextCopy s (.entitlement i c) → AccountBounded s.toBlock → CurrentMatches s.toBlock →
    let A := s.account
    let taken := fun a : Account => ∃ b, Makes (.entitlementMessageCell i c) s b ∧ AccountChange s (.entitlement i c) b ∧ OffersOnly s.toBlock b
      ∧ b.account = a ∧ (a = A → b = copyTaken s (.entitlement i c))
    (∀ cls expiry renewBy, m.kind = .grant cls expiry renewBy → ∃ l, taken { A with entitlements := l } ∧
      let e : Entitlement := ⟨cls, expiry, renewBy⟩
      ((∃ y ∈ A.entitlements, y.cls = cls) → ∀ x, x ∈ l ↔ x = e ∨ (x ∈ A.entitlements ∧ x.cls ≠ cls))
      ∧ ((∀ y ∈ A.entitlements, y.cls ≠ cls) → A.entitlements.length < 64 → ∀ x, x ∈ l ↔ x = e ∨ x ∈ A.entitlements)
      ∧ ((∀ y ∈ A.entitlements, y.cls ≠ cls) → A.entitlements.length = 64 → ∀ v ∈ A.entitlements,
          (∀ y ∈ A.entitlements, v.expiry < y.expiry ∨ (v.expiry = y.expiry ∧ v.cls ≤ y.cls)) →
          if v.expiry < expiry then ∀ x, x ∈ l ↔ x = e ∨ (x ∈ A.entitlements ∧ x ≠ v) else l = A.entitlements))
    ∧ (∀ cls, m.kind = .revoke cls → taken { A with entitlements := A.entitlements.filter fun x => decide (x.cls ≠ cls) })
    ∧ (∀ keyId key validFrom validUntil, m.kind = .serviceKey keyId key validFrom validUntil → ∃ l, taken { A with serviceKeys := l } ∧
      let r : ServiceKeyRecord := ⟨keyId, key, validFrom, validUntil⟩
      ((∃ y ∈ A.serviceKeys, y.keyId = keyId) → ∀ x, x ∈ l ↔ x = r ∨ (x ∈ A.serviceKeys ∧ x.keyId ≠ keyId))
      ∧ ((∀ y ∈ A.serviceKeys, y.keyId ≠ keyId) → A.serviceKeys.length < 8 → ∀ x, x ∈ l ↔ x = r ∨ x ∈ A.serviceKeys)
      ∧ ((∀ y ∈ A.serviceKeys, y.keyId ≠ keyId) → A.serviceKeys.length = 8 → ∀ v ∈ A.serviceKeys,
          (∀ y ∈ A.serviceKeys, v.validUntil < y.validUntil ∨ (v.validUntil = y.validUntil ∧ v.keyId ≤ y.keyId)) →
          ∀ x, x ∈ l ↔ x = r ∨ (x ∈ A.serviceKeys ∧ x ≠ v)))
    ∧ ∀ u group position, m.address = .unique u → m.kind = .groupAssign group position →
        taken { A with group := if group = 0 then none else some ⟨group, position⟩ }

/-- Entitlement messages: screened by address, integrity and kind, and applied by kind. -/
def Obligations.EntitlementMessagesAreTaken : Prop :=
  Claims.EntitlementMessagesAreScreened ∧ Claims.EntitlementMessagesApply

/-- The charge step on one record, with `m` units in the purse before it and `n` after (R131): where charges due exceed charges taken, the purse pays the charge whole, or
the record is exhausted and the purse stays; a record that owes nothing stays, and the purse with it. -/
def chargedRecord (p : Purchase) (m : Nat) (q : Purchase) (n : Nat) : Prop :=
  let due := p.state = .metering ∧ p.taken < chargesDue p.terms p.clock
  let amount := if p.terms.cap = 0 then p.terms.rate else min p.terms.rate (p.terms.cap - p.charged)
  let charged := min (p.charged + amount) 4294967295
  (¬ due → q = p ∧ n = m)
  ∧ (due → amount ≤ m → n = m - amount ∧ q = { p with
      taken := p.taken + 1, charged := charged, exhausted := false
      state := if p.terms.cap ≠ 0 ∧ charged = p.terms.cap then .paidInFull else .metering })
  ∧ (due → m < amount → n = m ∧ q = { p with exhausted := true })

/-- The records of a list one after the other, each changed as `one` says, with the purse as the one before it left it (R129, R131, R133). -/
def inTurn (one : Purchase → Nat → Purchase → Nat → Prop) : List Purchase → Nat → List Purchase → Nat → Prop
  | [], m, l, n => l = [] ∧ n = m
  | p :: rest, m, l, n => ∃ q k more, l = q :: more ∧ one p m q k ∧ inTurn one rest k more n

/-- A CREDIT whose sequence is newer by 1 to 32,767, modulo 65,536, or the first, sets the sequence and adds its amount up to 16,777,215; where that raises the
purse, the records of the list that are due settle one charge each, in list order, and a record that this changes posts a PURCHASE notice.  Any other CREDIT
does nothing.  CLEAR ACCOUNT empties the account and the purchase list. -/
def Claims.CreditAndClearAccount : Prop :=
  ∀ (i : TunerId) (c : Cell) (m : EntitlementMessage) (s : State), bringsMessage c m → messageForUnit s.account m.address → m.genuine = true →
    NextCopy s (.entitlement i c) → CurrentMatches s.toBlock → PurchasesDistinct s.toBlock →
    (∀ sequence amount, m.kind = .credit sequence amount →
      let newer := ∀ x, s.account.sequence = some x → 1 ≤ (sequence + 65536 - x) % 65536 ∧ (sequence + 65536 - x) % 65536 ≤ 32767
      (¬ newer → Makes (.entitlementMessageCell i c) s (copyTaken s (.entitlement i c)))
      ∧ (newer → ∃ b, Makes (.entitlementMessageCell i c) s b ∧ AccountChange s (.entitlement i c) b
          ∧ b.account = { s.account with sequence := some sequence, purse := b.account.purse }
          ∧ let raised := min (s.account.purse + amount) 16777215
            (raised ≤ s.account.purse → b.account.purse = raised ∧ OffersOnly s.toBlock b)
            ∧ (s.account.purse < raised → ∃ l new, inTurn chargedRecord s.purchases raised l b.account.purse ∧ b.purchases = l ++ new
                ∧ (∀ q ∈ new, q.state = .offered) ∧ ((∃ q ∈ l, q ∉ s.purchases) → ∃ n ∈ b.link.notices, n.key = .purchase))))
    ∧ ∀ u, m.address = .unique u → m.kind = .clearAccount →
        let cleared : Account := { s.account with entitlements := [], serviceKeys := [], purse := 0, sequence := none }
        (s.account = cleared → s.purchases = [] → Makes (.entitlementMessageCell i c) s (copyTaken s (.entitlement i c)))
        ∧ (s.account ≠ cleared ∨ s.purchases ≠ [] → ∃ b, Makes (.entitlementMessageCell i c) s b ∧ AccountChange s (.entitlement i c) b
            ∧ b.account = cleared ∧ (∃ n ∈ b.link.notices, n.key = .account) ∧ (∀ o, UpToDate b o)
            ∧ (∀ p ∈ b.purchases, p.state = .offered ∧ p.clock = 0)
            ∧ (s.purchases ≠ [] → ∃ n ∈ b.link.notices, n.key = .purchase))

/-- The Entitlement Store's second: with time set, entitlements with either date at or before UTC and service keys past their valid-until go, with an ACCOUNT
notice and every output evaluated where anything goes; with time unset, or nothing to go, nothing changes. -/
def Claims.LapsedEntriesGo : Prop :=
  ∀ s : State, CurrentMatches s.toBlock →
    (s.guide.time.utc = none → Makes .entitlementSecondsExpiry s s.toBlock)
    ∧ ∀ now, s.guide.time.utc = some now →
      let lapsed : Account := { s.account with
        entitlements := s.account.entitlements.filter fun e => decide (now < e.expiry) && decide (now < e.renewBy)
        serviceKeys := s.account.serviceKeys.filter fun r => decide (now < r.validUntil) }
      (lapsed = s.account → Makes .entitlementSecondsExpiry s s.toBlock)
      ∧ (lapsed ≠ s.account → ∃ b, Makes .entitlementSecondsExpiry s b ∧ b.account = lapsed ∧ (∀ o, UpToDate b o)
          ∧ (∃ n ∈ b.link.notices, n.key = .account) ∧ OffersOnly s.toBlock b
          ∧ b = { s.toBlock with
                  link := { s.link with notices := b.link.notices }
                  account := lapsed
                  engines := { s.engines with outputs := b.engines.outputs }
                  purchases := b.purchases })

/-- CREDIT, CLEAR ACCOUNT and lapse: what they do to the account, and what follows a change. -/
def Obligations.CreditClearAndLapseChangeTheAccount : Prop :=
  Claims.CreditAndClearAccount ∧ Claims.LapsedEntriesGo

/-! ## Purchases -/

/-- The price terms that a FLAT or METERED event gives a record (R120). -/
def givesTerms (e : Event) (t : Terms) : Prop :=
  (e.priceMode = .flat ∧ t.mode = .flat ∨ e.priceMode = .metered ∧ t.mode = .metered) ∧ t.flatPrice = e.flatPrice ∧ t.rate = e.rate
    ∧ t.interval = e.interval ∧ t.preview = e.preview ∧ t.cap = e.cap ∧ t.finish = e.start + e.duration

/-- The viewing clock with which a BUY begins (R126). -/
def clockAtBuy (s : State) (service : Nat) (e : Event) : Nat :=
  match findPurchase s.purchases service e.eventId with
  | some p => min p.clock (spanLength e.preview)
  | none => 0

/-- The amount of a first metered charge (R131 step 1). -/
def firstCharge (e : Event) : Nat := if e.cap = 0 then e.rate else min e.rate e.cap

/-- The refusals of BUY from the price mode on, the first that applies (R125). -/
def buyRefused (s : State) (w : PresId) (service : Nat) (e : Event) : Option RefusalCode :=
  let settings := (s.profile (s.boundProfile w)).settings
  let record := findPurchase s.purchases service e.eventId
  if e.priceMode = .free ∨ e.priceMode = .unpriced then some .priceInvalid
  else if ∃ p, record = some p ∧ p.state ≠ .offered then some .alreadyBought
  else if settings.mayPurchase = false
      ∨ (e.priceMode = .flat ∧ settings.spendCeiling < e.flatPrice)
      ∨ (e.priceMode = .metered ∧ e.cap ≠ 0 ∧ settings.spendCeiling < e.cap)
      ∨ (e.priceMode = .metered ∧ e.cap = 0 ∧ settings.spendCeiling ≠ 65535) then some .notPermitted
  else if record = none ∧ 32 ≤ s.purchases.length then some .listFull
  else if e.priceMode = .flat ∧ s.account.purse < e.flatPrice then some .creditLow
  else if e.priceMode = .metered ∧ spanLength e.preview ≤ clockAtBuy s service e ∧ s.account.purse < firstCharge e then some .creditLow
  else none

/-- BUY meets its checks in order, and a refused BUY changes nothing. -/
def Claims.BuyMeetsItsChecks : Prop :=
  ∀ (h : Head) (output service event : Nat) (s : State), Heard h s →
    (s.link.device ≠ .running → Refuses (.buy h output service event) s .notReady)
    ∧ (s.link.device = .running →
      (4 ≤ output ∨ service = 0 ∨ 9999 < service → Refuses (.buy h output service event) s .badArgument)
      ∧ ∀ w : PresId, output = w.val → 1 ≤ service → service ≤ 9999 →
        (s.guide.service? service = none → Refuses (.buy h output service event) s .unknownService)
        ∧ (s.guide.service? service ≠ none →
          (s.guide.named? service event = none → Refuses (.buy h output service event) s .unknownEvent)
          ∧ ∀ e r, s.guide.named? service event = some e → buyRefused s w service e = some r →
              Refuses (.buy h output service event) s r))

/-- A BUY that passes its checks: the record, at its place or the last one, takes the stored terms and the buying profile, and enters PAID for its flat price
or METERING with the charge that is due at once; the purse pays exactly what the record is charged, and the reply gives both.  That the flat price counts
among a FLAT record's charged units is the model's reading (log entry 19). -/
def Claims.BuyTakesEffect : Prop :=
  ∀ (h : Head) (w : PresId) (service event : Nat) (e : Event) (s : State), Heard h s → s.link.device = .running →
    1 ≤ service → service ≤ 9999 → s.guide.service? service ≠ none → s.guide.named? service event = some e →
    buyRefused s w service e = none → PurchasesDistinct s.toBlock → CurrentMatches s.toBlock →
    ∃ b p v,
      exec (.buy h w.val service event) s = .next (s.after h (.data (.bought v b.account.purse)) b)
      ∧ v = ⟨p.service, p.eventId, p.state, p.charged, p.taken, p.clock, p.exhausted⟩
      ∧ findPurchase b.purchases service e.eventId = some p
      ∧ p.service = service ∧ p.eventId = e.eventId ∧ givesTerms e p.terms ∧ p.clock = clockAtBuy s service e ∧ p.exhausted = false
      ∧ p.buyer = some (s.boundProfile w)
      ∧ (e.priceMode = .flat → p.state = .paid ∧ p.charged = e.flatPrice ∧ p.taken = 0)
      ∧ (e.priceMode = .metered → p.clock < spanLength e.preview → p.state = .metering ∧ p.charged = 0 ∧ p.taken = 0)
      ∧ (e.priceMode = .metered → spanLength e.preview ≤ p.clock → e.rate ≤ 4294967295 →
          p.charged = firstCharge e ∧ p.taken = 1
          ∧ p.state = (if e.cap ≠ 0 ∧ firstCharge e = e.cap then .paidInFull else .metering))
      ∧ (e.rate ≤ 4294967295 → b.account = { s.account with purse := s.account.purse - p.charged } ∧ p.charged ≤ s.account.purse)
      ∧ (∃ new, (∀ x ∈ new, x.state = .offered)
          ∧ b.purchases = (if findPurchase s.purchases service e.eventId = none then s.purchases ++ [p]
              else s.purchases.map fun x => if x.service = service ∧ x.eventId = e.eventId then p else x) ++ new)
      ∧ (∃ n ∈ b.link.notices, n.key = .purchase) ∧ (0 < p.charged → ∃ n ∈ b.link.notices, n.key = .account)
      ∧ (∀ o, (s.out o).showsEvent service e.eventId = true → UpToDate b o)
      ∧ b = { s.toBlock with
              link := { s.link with notices := b.link.notices }
              account := b.account
              engines := { s.engines with outputs := b.engines.outputs }
              purchases := b.purchases }

/-- BUY: its checks in order, and a purchase that passes them. -/
def Obligations.BuyTakesEffect : Prop :=
  Claims.BuyMeetsItsChecks ∧ Claims.BuyTakesEffect

/-- Charges due: none before the preview is over, then one more for each interval begun.  They rise by at most one as the clock rises by one, and the
manual's example holds. -/
def Claims.ChargesFallDueByTheClock : Prop :=
  (∀ (t : Terms) (v : Nat), v < spanLength t.preview → chargesDue t v = 0)
  ∧ (∀ (t : Terms) (v : Nat), 0 < spanLength t.interval → spanLength t.preview ≤ v →
      1 ≤ chargesDue t v
      ∧ spanLength t.preview + (chargesDue t v - 1) * spanLength t.interval ≤ v
      ∧ v < spanLength t.preview + chargesDue t v * spanLength t.interval)
  ∧ (∀ (t : Terms) (v : Nat), chargesDue t v ≤ chargesDue t (v + 1) ∧ chargesDue t (v + 1) ≤ chargesDue t v + 1)
  ∧ ∀ t : Terms, spanLength t.preview = 180 → spanLength t.interval = 900 →
      chargesDue t 179 = 0 ∧ chargesDue t 180 = 1 ∧ chargesDue t 1079 = 1 ∧ chargesDue t 1080 = 2 ∧ chargesDue t 1979 = 2

/-- Whether an output is LIVE on a record's event with verdict PREVIEW or METERED (R129). -/
def watched (s : State) (p : Purchase) : Prop :=
  ∃ o e, (s.out o).current = some e ∧ e.service = p.service ∧ e.eventId = p.eventId ∧ (s.out o).delivery = .live
    ∧ ((s.out o).verdict = some (.pass .preview) ∨ (s.out o).verdict = some (.pass .metered))

/-- One record's part of the Purchase Unit's second, with `m` units in the purse before it and `n` after (R129, R131, R132, R134): a record that is OFFERED in its
preview, or METERING and not exhausted, and that is watched gains one second of viewing, which brings at most one charge due, and that one is settled; any
other record stays, and the purse with it. -/
def viewedRecord (s : State) (p : Purchase) (m : Nat) (q : Purchase) (n : Nat) : Prop :=
  let advances := ((p.state = .offered ∧ p.clock < spanLength p.terms.preview) ∨ (p.state = .metering ∧ p.exhausted = false)) ∧ watched s p
  let clock := min (p.clock + 1) 4294967295
  (¬ advances → q = p ∧ n = m)
  ∧ (advances → chargedRecord { p with clock := clock } m q n)
  ∧ (advances → p.state = .metering → p.taken ≤ chargesDue p.terms clock ∧ chargesDue p.terms clock ≤ p.taken + 1)

/-- Whether cleanup takes a record: time is set and an hour past the end of its event, as stored or else as copied, and no output shows the event (R136). -/
def cleanedUp (b : Block) (p : Purchase) : Prop :=
  (∃ now, b.guide.time.utc = some now
      ∧ (∀ e, b.guide.event? p.service p.eventId = some e → e.start + e.duration + 3600 ≤ now)
      ∧ (b.guide.event? p.service p.eventId = none → p.terms.finish + 3600 ≤ now))
    ∧ ∀ o, (b.out o).showsEvent p.service p.eventId = false

/-- A list with exactly the records of `l` that cleanup does not take, in their order, and OFFERED ones after them (R123, R136). -/
def cleanedList (b : Block) (l after : List Purchase) : Prop :=
  ∃ kept new, after = kept ++ new ∧ kept.Sublist l ∧ (∀ q ∈ l, q ∈ kept ↔ ¬ cleanedUp b q) ∧ ∀ q ∈ new, q.state = .offered

/-- The Purchase Unit's second: every record in list order gains its second and pays or fails its charge, over the records that count and are watched as the second
begins, which is the model's reading (log entry 33); then exactly the records an hour past their end that no output shows go, with a PURCHASE notice.  A record
whose preview is spent, that is exhausted or that is paid in full by this second posts a PURCHASE notice and has the outputs on its event evaluated; a purse that
falls posts an ACCOUNT notice.  Nothing but purse, records, offers, outputs and notices changes. -/
def Claims.ViewingClocksCount : Prop :=
  ∀ s : State, PurchasesDistinct s.toBlock → ChargesInStep s.toBlock → ∃ b l, Makes .purchaseSecondsExpiry s b
    ∧ b = { s.toBlock with
            link := { s.link with notices := b.link.notices }
            account := { s.account with purse := b.account.purse }
            engines := { s.engines with outputs := b.engines.outputs }
            purchases := b.purchases }
    ∧ inTurn (viewedRecord s) s.purchases s.account.purse l b.account.purse
    ∧ cleanedList s.toBlock l b.purchases
    ∧ ((∃ q ∈ l, cleanedUp s.toBlock q) → ∃ n ∈ b.link.notices, n.key = .purchase)
    ∧ (b.account.purse ≠ s.account.purse → ∃ n ∈ b.link.notices, n.key = .account)
    ∧ ∀ q ∈ l, q ∉ s.purchases →
        (q.state = .metering ∧ q.exhausted = true) ∨ q.state = .paidInFull ∨ (q.state = .offered ∧ spanLength q.terms.preview ≤ q.clock) →
        (∃ n ∈ b.link.notices, n.key = .purchase)
        ∧ (CurrentMatches s.toBlock → ∀ o, (s.out o).showsEvent q.service q.eventId = true → UpToDate b o)

/-- Charges fall due by the viewing clock, and the Purchase Unit's second advances the watched records (log entry 33), takes what falls due from the purse, and
cleans up. -/
def Obligations.ViewingClocksCountAndCharge : Prop :=
  Claims.ChargesFallDueByTheClock ∧ Claims.ViewingClocksCount

/-! ## Parental limits -/

/-- The parental answer is the first test that fails and that the override does not lift: window, allowance, unrated, rating, category. -/
def Claims.ParentalAnswerIsTheFirstFailure : Prop :=
  ∀ (p : Profile) (scope : Option Scope) (minute : Option Nat) (rating : Nat) (categories : BitVec 8),
    let x := p.settings
    let outside := x.windowStart ≠ x.windowEnd ∧ ∀ m, minute = some m →
      ¬ (x.windowStart < x.windowEnd ∧ x.windowStart ≤ m ∧ m < x.windowEnd) ∧ ¬ (x.windowEnd < x.windowStart ∧ (x.windowStart ≤ m ∨ m < x.windowEnd))
    let spent := x.allowance < 1440 ∧ 60 * x.allowance ≤ p.spent
    let unrated := rating = 0 ∧ x.blockUnrated = true
    let rated := x.ceiling < rating
    let blocked := ∃ i < 8, categories.getLsbD i = true ∧ x.blocked.getLsbD i = true
    let answer := p.parentalAnswer scope minute rating categories
    (scope = some .all → answer = none)
    ∧ (scope ≠ some .all → outside → answer = some .outsideWindow)
    ∧ (scope ≠ some .all → ¬ outside → spent → answer = some .allowanceSpent)
    ∧ (scope = some .content → ¬ outside → ¬ spent → answer = none)
    ∧ (scope = none → ¬ outside → ¬ spent →
        (unrated → answer = some .unrated) ∧ (¬ unrated → rated → answer = some .rating)
        ∧ (¬ unrated → ¬ rated → blocked → answer = some .category) ∧ (¬ unrated → ¬ rated → ¬ blocked → answer = none))

/-- A request under the master code on a profile (R142, R143, R145, R147): LOCKED OUT and WRONG CODE while the master code is set, the third wrong code
locking profile 0 out for 600 s; otherwise its change is made, profile 0's count is 0 where the code was compared, and the outputs bound to the profile are
evaluated. -/
def underMasterCode (c : Instr) (s : State) (p : ProfileId) (code : Code) (change : Profile → Profile) : Prop :=
  let master := s.profile 0
  (master.code ≠ none → 0 < master.lockout → Refuses c s .lockedOut)
  ∧ (master.code ≠ none → master.lockout = 0 → master.code ≠ some code → ∃ h, requestHead c = some h
      ∧ exec c s = .next (s.after h (.refused .wrongCode) (s.toBlock.setProfile 0 { master with
          wrongCodes := master.wrongCodes + 1, lockout := if master.wrongCodes = 2 then 600 else 0 })))
  ∧ (master.code = none ∨ (master.lockout = 0 ∧ master.code = some code) → ∃ b d, Acks c s d
      ∧ b = { s.toBlock with profiles := b.profiles }
      ∧ (let right : Profile := if p = 0 ∧ master.code ≠ none then { s.profile p with wrongCodes := 0 } else s.profile p
         b.profile p = change right)
      ∧ (p ≠ 0 → b.profile 0 = if master.code = none then master else { master with wrongCodes := 0 })
      ∧ (∀ q, q ≠ p → q ≠ 0 → b.profile q = s.profile q)
      ∧ EvaluatesOnly ((List.finRange 4).filter (fun w => decide (s.boundProfile w = p)) |>.map presOut) b d
      ∧ (CurrentMatches s.toBlock → ∀ w, s.boundProfile w = p → UpToDate d (presOut w)))

/-- SET PROFILE and FLIP CATEGORIES: numbers out of range are refused BAD ARGUMENT first; then the master code decides, and the profile takes the settings
and the new code, or has the named blocked categories turned over. -/
def Claims.ProfilesChangeUnderTheMasterCode : Prop :=
  (∀ (h : Head) (profile : Nat) (code : Code) (newCode : Option Code) (x : ProfileSettings) (s : State), Heard h s →
    let good := x.ceiling ≤ 15 ∧ x.allowance ≤ 1440 ∧ x.windowStart ≤ 1439 ∧ x.windowEnd ≤ 1439 ∧ codeGood code = true
      ∧ ∀ c, newCode = some c → codeGood c = true
    (8 ≤ profile ∨ ¬ good → Refuses (.setProfile h profile code newCode x) s .badArgument)
    ∧ ∀ p : ProfileId, profile = p.val → good →
        underMasterCode (.setProfile h profile code newCode x) s p code
          (fun y => { y with settings := x, code := match newCode with | some c => some c | none => y.code }))
  ∧ (∀ (h : Head) (profile : Nat) (mask : BitVec 8) (code : Code) (s : State), Heard h s →
    (8 ≤ profile ∨ codeGood code = false → Refuses (.flipCategories h profile mask code) s .badArgument)
    ∧ ∀ p : ProfileId, profile = p.val → codeGood code = true →
        underMasterCode (.flipCategories h profile mask code) s p code
          (fun y => { y with settings := { y.settings with blocked := y.settings.blocked ^^^ mask } }))
  ∧ ∀ c : Code, codeGood c = true ↔ c.d0 ≤ 9 ∧ c.d1 ≤ 9 ∧ c.d2 ≤ 9 ∧ c.d3 ≤ 9

/-- UNLOCK: the master code gives scope ALL and the bound profile's own code CONTENT, each unless its profile is locked out, the wider scope staying; any other
code is counted against the bound profile where that could be matched, and against profile 0 otherwise. -/
def Claims.UnlockInstallsAnOverride : Prop :=
  ∀ (h : Head) (output : Nat) (code : Code) (s : State), Heard h s →
    (4 ≤ output ∨ codeGood code = false → Refuses (.unlock h output code) s .badArgument)
    ∧ ∀ w : PresId, output = w.val → codeGood code = true →
      let x := s.out (presOut w)
      let bound := s.boundProfile w
      let master := (s.profile 0).lockout = 0 ∧ (s.profile 0).code = some code
      let own := bound ≠ 0 ∧ (s.profile bound).lockout = 0 ∧ (s.profile bound).code = some code
      let shut := x.delivery = .off ∨ x.delivery = .restDeep ∨ x.delivery = .contained
      let locked := 0 < (s.profile 0).lockout ∧ 0 < (s.profile bound).lockout
      (shut → Refuses (.unlock h output code) s .wrongState)
      ∧ (¬ shut → locked → Refuses (.unlock h output code) s .lockedOut)
      ∧ (¬ shut → ¬ locked → ∀ p, x.part = some p → master ∨ own → ∃ b d, Acks (.unlock h output code) s d
          ∧ b = s.toBlock.setProfile (if master then 0 else bound) { s.profile (if master then 0 else bound) with wrongCodes := 0 }
          ∧ EvaluatesOnly [presOut w] b d ∧ UpToDate d (presOut w)
          ∧ (d.out (presOut w)).override = some {
              scope := if master ∨ x.override.map (·.scope) = some .all then .all else .content
              service := p.service
              eventId := x.current.map (·.eventId) })
      ∧ (¬ shut → ¬ locked → ¬ master → ¬ own →
          let q := if bound ≠ 0 ∧ (s.profile bound).lockout = 0 then bound else 0
          exec (.unlock h output code) s = .next (s.after h (.refused .wrongCode) (s.toBlock.setProfile q { s.profile q with
            wrongCodes := (s.profile q).wrongCodes + 1
            lockout := if (s.profile q).wrongCodes = 2 then 600 else (s.profile q).lockout })))

/-- SET PROFILE, FLIP CATEGORIES and UNLOCK, under the codes that they are given. -/
def Obligations.ProfilesAndOverridesChangeUnderCodes : Prop :=
  Claims.ProfilesChangeUnderTheMasterCode ∧ Claims.UnlockInstallsAnOverride

/-- The Parental Unit's second: every lockout counts down, the wrong codes being forgotten at 0; a new local day starts the spent seconds over; and a profile
with a LIVE output gains one spent second, once however many it has, up to 86,400.  Where the second gained makes a profile spent, or the new day finds it
spent, every output bound to it is evaluated. -/
def Claims.ParentalSecondCounts : Prop :=
  ∀ s : State, ∃ b, Makes .parentalSecondsExpiry s b
    ∧ b = { s.toBlock with
            link := { s.link with notices := b.link.notices }
            engines := { s.engines with outputs := b.engines.outputs }
            purchases := b.purchases
            profiles := b.profiles }
    ∧ OffersOnly s.toBlock b ∧ (∀ o : OutId, 4 ≤ o.val → b.out o = s.out o)
    ∧ ∀ p, (b.profile p).settings = (s.profile p).settings ∧ (b.profile p).code = (s.profile p).code
        ∧ (b.profile p).lockout = (s.profile p).lockout - 1
        ∧ (b.profile p).wrongCodes = (if (s.profile p).lockout = 1 then 0 else (s.profile p).wrongCodes)
        ∧ ((∀ d, s.guide.time.day? = some d → d ≤ (s.profile p).day) →
            (b.profile p).day = (s.profile p).day
            ∧ (b.profile p).spent = if ∃ w, s.boundProfile w = p ∧ (s.out (presOut w)).delivery = .live then min ((s.profile p).spent + 1) 86400
                else (s.profile p).spent)
        ∧ (∀ d, s.guide.time.day? = some d → (s.profile p).day < d → (b.profile p).day = d ∧ (b.profile p).spent ≤ 1)
        ∧ let isSpent := fun x : Profile => x.settings.allowance < 1440 ∧ 60 * x.settings.allowance ≤ x.spent
          let newDay := ∃ d, s.guide.time.day? = some d ∧ (s.profile p).day < d
          (isSpent (s.profile p) ∧ newDay) ∨ (¬ isSpent (s.profile p) ∧ isSpent (b.profile p)) → CurrentMatches s.toBlock →
            ∀ w, s.boundProfile w = p → UpToDate b (presOut w)

/-! ## The presentation verdict -/

/-- An evaluation's tests in order: the first that fails holds the output, and one that passes them all is LIVE, or KEYING until its slot is LIVE.  A current
event that the pool no longer stores counts as none, which is the model's choice (log entry 13). -/
def Claims.VerdictIsTheFirstFailingTest : Prop :=
  ∀ (b : Block) (o : OutId) (p : ServicePart),
    let x := b.out o
    let result := (b.judge o p).2
    let noSignal := p.tuner = none ∨ p.signal ≠ some .locked
    let unknown := b.guide.service? p.service = none
    let screen := fun h =>
      (∃ w : PresId, o = presOut w ∧ (b.profile (b.boundProfile w)).parentalAnswer (x.override.map (·.scope)) b.guide.time.minute?
          (((b.currentRecord x).map (·.rating)).getD 0) (((b.currentRecord x).map (·.categories)).getD 0) = some h)
      ∨ (4 ≤ o.val ∧ h = .copyBlocked ∧ ∃ e, b.currentRecord x = some e ∧ (e.copy = .noMore ∨ e.copy = .never))
    let cls := match b.currentRecord x with
      | some e => e.accessClass
      | none => ((b.guide.service? p.service).map (·.defaultClass)).getD 0
    let record := fun q => ∃ e, b.currentRecord x = some e ∧ (e.priceMode = .flat ∨ e.priceMode = .metered)
      ∧ findPurchase b.purchases p.service e.eventId = some q
    let ready := p.keyLabel = none ∨ ∃ r, p.slot = some r ∧ (b.slot r.slot).state = .live
    let marked := p.keyLabel ≠ none ∧ ∃ r, p.slot = some r ∧ (b.slot r.slot).state = .await ∧ (b.slot r.slot).mark ≠ none
    let passed := fun pass => result = if ready then .live pass else if marked then .held .noKey else .keying pass
    (noSignal → result = .held .noSignal)
    ∧ (¬ noSignal → unknown → result = .held .noService)
    ∧ (¬ noSignal → ¬ unknown → ∀ h, screen h → result = .held h)
    ∧ (¬ noSignal → ¬ unknown → (∀ h, ¬ screen h) →
        (cls = 0 → passed .freeView)
        ∧ (cls ≠ 0 → b.account.granted b.guide.time cls = true → passed .entitled)
        ∧ (cls ≠ 0 → b.account.granted b.guide.time cls = false →
            ((∀ e, b.currentRecord x = some e → e.priceMode = .free) → result = .held .notEntitled)
            ∧ (∀ e, b.currentRecord x = some e → e.priceMode = .unpriced → result = .held .needsPurchase)
            ∧ (∀ q, record q →
                (q.state = .paid ∨ q.state = .paidInFull → passed .paid)
                ∧ (q.state = .metering → q.exhausted = true → result = .held .creditExhausted)
                ∧ (q.state = .metering → q.exhausted = false → passed .metered)
                ∧ (q.state = .offered → q.clock < spanLength q.terms.preview → passed .preview)
                ∧ (q.state = .offered → spanLength q.terms.preview ≤ q.clock → result = .held .needsPurchase))
            ∧ ∀ e, b.currentRecord x = some e → e.priceMode = .flat ∨ e.priceMode = .metered →
                findPurchase b.purchases p.service e.eventId = none →
                if spanLength e.preview ≠ 0 ∧ b.purchases.length < 32 then
                  passed .preview ∧ ∃ q, (b.judge o p).1.purchases = b.purchases ++ [q] ∧ q.state = .offered ∧ q.service = p.service
                    ∧ q.eventId = e.eventId ∧ q.clock = 0 ∧ givesTerms e q.terms
                else result = .held .needsPurchase ∧ (b.judge o p).1 = b))

/-- What is granted and what is valid (R114): with time unset every entry is granted and every service key valid; otherwise both dates of an entry lie after UTC, and
a service key is valid from a time at or before UTC until one after it.  Class 0 is always granted, any other by an entry for it that is granted; a service key
is found by its id where it is valid. -/
def Claims.GrantsAndKeysFollowTheTime : Prop :=
  ∀ (a : Account) (t : TimeBase),
    (∀ e : Entitlement, e.granted t = true ↔ ∀ now, t.utc = some now → now < e.expiry ∧ now < e.renewBy)
    ∧ (∀ r : ServiceKeyRecord, r.valid t = true ↔ ∀ now, t.utc = some now → r.validFrom ≤ now ∧ now < r.validUntil)
    ∧ a.granted t 0 = true
    ∧ (∀ cls, cls ≠ 0 → (a.granted t cls = true ↔
        ∃ e ∈ a.entitlements, e.cls = cls ∧ ∀ now, t.utc = some now → now < e.expiry ∧ now < e.renewBy))
    ∧ ((a.serviceKeys.Pairwise fun x y => x.keyId < y.keyId) → ∀ id k, a.key? t id = some k ↔
        ∃ r ∈ a.serviceKeys, r.keyId = id ∧ r.key = k ∧ ∀ now, t.utc = some now → r.validFrom ≤ now ∧ now < r.validUntil)

/-- The presentation verdict is the first of its tests that fails, the parental test by its own order with what an override lifts, and the access test by what
is granted at the time. -/
def Obligations.VerdictIsTheFirstFailingTest : Prop :=
  Claims.ParentalAnswerIsTheFirstFailure ∧ Claims.GrantsAndKeysFollowTheTime ∧ Claims.VerdictIsTheFirstFailingTest

/-! ## Faults and containment -/

/-- A raise: a masked class does nothing; on a CONTAINED output it joins the status alone; otherwise it joins the status, fills the log where the pointer was
NONE, posts a FAULT notice, and contains the output where the policy says so and it does not rest. -/
def Obligations.FaultsFollowThePolicy : Prop :=
  ∀ (b : Block) (o : OutId) (c : FaultClass) (label : Nat),
    let x := b.out o
    let after := (b.raise o c label).out o
    (c ∈ x.fault.mask → b.raise o c label = b)
    ∧ (c ∉ x.fault.mask → (∀ y, y ∈ after.fault.status ↔ y = c ∨ y ∈ x.fault.status ∨ (y ∈ after.fault.status ∧ y = .copyViolation ∧ 4 ≤ o.val)))
    ∧ (c ∉ x.fault.mask → x.delivery = .contained → after.fault.pointer = x.fault.pointer ∧ after.fault.log = x.fault.log
        ∧ after.fault.reason = x.fault.reason ∧ (b.raise o c label).link = b.link)
    ∧ (c ∉ x.fault.mask → x.delivery ≠ .contained →
        (∃ n ∈ (b.raise o c label).link.notices, n.key = .fault o)
        ∧ (x.fault.pointer ≠ none → after.fault.pointer = x.fault.pointer ∧ after.fault.log = x.fault.log)
        ∧ (x.fault.pointer = none → after.fault.pointer = some c ∧ ∃ l, after.fault.log = some l ∧ l.cls = c ∧ l.label = label
            ∧ l.utc = b.guide.time.utc ∧ l.tuner = x.part.bind (·.tuner) ∧ l.eventId = x.current.map (·.eventId) ∧ l.slot = (x.part.bind (·.slot)).map (·.slot))
        ∧ (c ∈ x.fault.contain ∧ x.fault.enable = true ∧ x.restLevel = .awake → after.fault.reason = some (.fault c) ∧ after.override = none
            ∧ (x.part ≠ none → after.delivery = .contained ∧ ∃ n ∈ (b.raise o c label).link.notices, n.key = .output o))
        ∧ (¬ (c ∈ x.fault.contain ∧ x.fault.enable = true ∧ x.restLevel = .awake) → after.fault.reason = x.fault.reason
            ∧ after.delivery = x.delivery))
    ∧ EvaluatesOnly [o] b (b.raise o c label)

/-- CONTAIN and RELEASE: each meets its checks in order.  CONTAIN removes the override, evaluates the verdict and leaves pointer and log, and of P0 to P3 the
status; that a record output which this evaluation newly finds COPY BLOCKED keeps its pointer and log is the model's choice (log entry 18).  RELEASE takes the
reason away and evaluates the verdict at once, so that the output is no longer CONTAINED, with the rest of its fault block and its override kept, unless this
evaluation newly finds a record output COPY BLOCKED; it is refused DRAIN BUSY for a record output with a DRAINING half.  The ids 4 and 5 of R0 and R1, and the
refusal from 6 on, are the model's reading (log entry 7). -/
def Claims.ContainAndReleaseAreTaken : Prop :=
  ∀ (h : Head) (output : Nat) (s : State), Heard h s → DeliveryFollows s.toBlock →
    (6 ≤ output → Refuses (.contain h output) s .badArgument ∧ Refuses (.release h output) s .badArgument)
    ∧ ∀ o : OutId, output = o.val →
      let x := s.out o
      let shut := x.delivery = .off ∨ x.delivery = .restLight ∨ x.delivery = .restDeep ∨ x.delivery = .contained
      let drains := ∃ r : RecId, o = recOut r ∧ ∃ k, ((s.ring r).half k).state = .draining
      (shut → Refuses (.contain h output) s .wrongState)
      ∧ (¬ shut → ∃ c, Acks (.contain h output) s c ∧ EvaluatesOnly [o] s.toBlock c ∧ UpToDate c o
          ∧ (c.out o).delivery = .contained ∧ (c.out o).fault.reason = some .request ∧ (c.out o).override = none
          ∧ (∃ n ∈ c.link.notices, n.key = .output o) ∧ (c.out o).fault.pointer = x.fault.pointer ∧ (c.out o).fault.log = x.fault.log
          ∧ (o.val < 4 → (c.out o).fault.status = x.fault.status) ∧ (c.out o).part = x.part ∧ (c.out o).current = x.current
          ∧ (c.out o).stopAt = x.stopAt ∧ (c.out o).silence = x.silence)
      ∧ (x.delivery ≠ .contained → Refuses (.release h output) s .notContained)
      ∧ (x.delivery = .contained → drains → Refuses (.release h output) s .drainBusy)
      ∧ (x.delivery = .contained → ¬ drains → ∃ c, Acks (.release h output) s c ∧ EvaluatesOnly [o] s.toBlock c ∧ UpToDate c o
          ∧ (∃ n ∈ c.link.notices, n.key = .output o) ∧ (c.out o).part = x.part ∧ (c.out o).current = x.current
          ∧ (o.val < 4 ∨ x.verdict = some (.held .copyBlocked) ∨ (c.out o).verdict ≠ some (.held .copyBlocked) →
              (c.out o).fault = { x.fault with reason := none } ∧ (c.out o).override = x.override ∧ (c.out o).delivery ≠ .contained))

/-- CLEAR FAULTS takes its classes from the status, and the pointer and the log with the pointed class; it posts a FAULT notice where the status changed.  FAULT
POLICY replaces the policy whole and touches nothing that the fault block holds already.  Both refuse other ids, by the model's reading of them (log entry 7), and
other classes BAD ARGUMENT. -/
def Claims.FaultsAreClearedAndPolicySet : Prop :=
  (∀ (h : Head) (output : Nat) (a : FaultSetArg) (s : State), Heard h s →
    (6 ≤ output ∨ a.others = true → Refuses (.clearFaults h output a) s .badArgument)
    ∧ ∀ o : OutId, output = o.val → a.others = false → ∃ c, Acks (.clearFaults h output a) s c
        ∧ let f := (s.out o).fault
          let cleared := ∃ y, f.pointer = some y ∧ y ∈ a.classes ∧ y ∈ f.status
          c = { s.toBlock with
                engines := { s.engines with outputs := c.engines.outputs }, link := { s.link with notices := c.link.notices } }
          ∧ (∀ v, v ≠ o → c.out v = s.out v)
          ∧ c.out o = { s.out o with fault := { f with
              status := f.status.filter fun y => decide (y ∉ a.classes)
              pointer := if cleared then none else f.pointer
              log := if cleared then none else f.log } }
          ∧ ((∃ y ∈ f.status, y ∈ a.classes) → ∃ n ∈ c.link.notices, n.key = .fault o)
          ∧ ((∀ y ∈ f.status, y ∉ a.classes) → c.link = s.link)
          ∧ PostsOnly (fun k => k = .fault o) s.toBlock c)
  ∧ ∀ (h : Head) (output : Nat) (mask contain : FaultSetArg) (enable : Bool) (s : State), Heard h s →
    (6 ≤ output ∨ mask.others = true ∨ contain.others = true → Refuses (.faultPolicy h output mask contain enable) s .badArgument)
    ∧ ∀ o : OutId, output = o.val → mask.others = false → contain.others = false →
        ∃ c m k, Acks (.faultPolicy h output mask contain enable) s c
          ∧ c = s.toBlock.setOut o { s.out o with fault := { (s.out o).fault with mask := m, contain := k, enable := enable } }
          ∧ (∀ y, y ∈ m ↔ y ∈ mask.classes) ∧ ∀ y, y ∈ k ↔ y ∈ contain.classes

/-- CONTAIN, RELEASE, CLEAR FAULTS and FAULT POLICY, each by its checks in order (the ids of R0 and R1 are log entry 7). -/
def Obligations.FaultRequestsAreTaken : Prop :=
  Claims.ContainAndReleaseAreTaken ∧ Claims.FaultsAreClearedAndPolicySet

/-! ## Recording -/

/-- RECORD START meets its checks in order and changes nothing for the service it records on a tuner; otherwise it takes the service up by the cold path, evaluates
the verdict, and an IDLE writer begins a FREE half: the one not filled last where both are FREE, half 0 at first.  The ids 4 and 5 of R0 and R1, and the refusal
of every other id, are the model's reading (log entry 7). -/
def Claims.RecordStartTakesUpAndWrites : Prop :=
  ∀ (h : Head) (output service : Nat) (s : State), Heard h s →
    (s.link.device ≠ .running → Refuses (.recordStart h output service) s .notReady)
    ∧ (s.link.device = .running →
      (output < 4 ∨ 6 ≤ output ∨ service = 0 ∨ 9999 < service → Refuses (.recordStart h output service) s .badArgument)
      ∧ ∀ r : RecId, output = r.val + 4 → 1 ≤ service → service ≤ 9999 →
        ((s.ring r).field = none → Refuses (.recordStart h output service) s .wrongState)
        ∧ ((s.ring r).field ≠ none → s.guide.service? service = none → Refuses (.recordStart h output service) s .unknownService)
        ∧ ((s.ring r).field ≠ none → ∀ x, s.guide.service? service = some x →
          let old := (s.out (recOut r)).part
          let same := old.map (·.service) = some service ∧ old.bind (·.tuner) ≠ none
          (same → AcksIdly (.recordStart h output service) s)
          ∧ (¬ same → ((s.guide.mux? x.muxIndex).bind fun m => chooseTuner s.pool .primary m) = none →
              Refuses (.recordStart h output service) s .noTuner)
          ∧ (¬ same → ∀ m t g, s.guide.mux? x.muxIndex = some m → chooseTuner s.pool .primary m = some (t, g) →
              ∃ c p, Acks (.recordStart h output service) s c ∧ TakesUpOnly s.toBlock { c with ringWriter := s.ringWriter }
                ∧ (c.out (recOut r)).part = some p
                ∧ p = { service := x.number, version := x.version, muxIndex := x.muxIndex, tuner := some t
                        signal := some (grantedSignal s.toBlock t g), video := x.video, audioIndex := 0, audioLabel := p.audioLabel
                        captions := x.captions, keyLabel := x.keyLabel, slot := p.slot }
                ∧ (∀ a, x.audios.head? = some a → p.audioLabel = a.label)
                ∧ Holding (.out (recOut r)) s.toBlock c p t g m
                ∧ ((s.out (recOut r)).restLevel = .awake → UpToDate c (recOut r) ∧ ∃ n ∈ c.link.notices, n.key = .output (recOut r))
                ∧ (c.out (recOut r)).current = s.currentFor service ∧ (∀ o, o ≠ recOut r → c.out o = s.out o)
                ∧ c.engines.recalls = s.engines.recalls
                ∧ c.ringWriter = { s.ringWriter with rings := c.ringWriter.rings } ∧ (∀ v, v ≠ r → c.ring v = s.ring v)
                ∧ ((s.ring r).writer ≠ .idle → c.ring r = s.ring r)
                ∧ ((s.ring r).writer = .idle →
                    let free := fun k => ((s.ring r).half k).state = .free
                    (∀ k, free k → (free (otherHalf k) → (s.ring r).lastFilled = some (otherHalf k) ∨ (s.ring r).lastFilled = none ∧ k = 0) →
                      c.ring r = { (s.ring r).setHalf k { state := .filling, count := 0, copy := none, first := none, last := none } with
                        writer := .writing k })
                    ∧ ((∀ k, ¬ free k) → c.ring r = { s.ring r with writer := .waiting none false })))))

/-- RECORD STOP: refused WRONG STATE for a CONTAINED output, nothing for an OFF one; otherwise tuner and slot are given up, the output is OFF, a FILLING half with
cells becomes FULL with a RING notice and one without becomes FREE, and the writer is IDLE; a drain runs on.  Its ids are those of log entry 7. -/
def Claims.RecordStopEndsTheWriter : Prop :=
  ∀ (h : Head) (output : Nat) (s : State), Heard h s →
    (output < 4 ∨ 6 ≤ output → Refuses (.recordStop h output) s .badArgument)
    ∧ ∀ r : RecId, output = r.val + 4 →
      let x := s.out (recOut r)
      (x.delivery = .contained → Refuses (.recordStop h output) s .wrongState)
      ∧ (x.delivery = .off → AcksIdly (.recordStop h output) s)
      ∧ (x.delivery ≠ .contained → x.delivery ≠ .off → ∃ c, Acks (.recordStop h output) s c
          ∧ TakesUpOnly s.toBlock { c with ringWriter := s.ringWriter } ∧ GivenUp (.out (recOut r)) s.toBlock c ∧ SlotLeft (.out (recOut r)) s.toBlock c
          ∧ c.out (recOut r) = { part := none, current := none, verdict := none, delivery := .off, restLevel := .awake, tolerance := none,
                                 hold := false, restSeconds := 0, stopAt := none, override := none, silence := 0, fault := x.fault }
          ∧ (∀ o, o ≠ recOut r → c.out o = s.out o) ∧ c.engines.recalls = s.engines.recalls ∧ c.engines.warms = s.engines.warms
          ∧ (∃ n ∈ c.link.notices, n.key = .output (recOut r))
          ∧ c.ringWriter = { s.ringWriter with rings := c.ringWriter.rings } ∧ (∀ v, v ≠ r → c.ring v = s.ring v)
          ∧ (c.ring r).writer = .idle ∧ (c.ring r).field = (s.ring r).field ∧ (c.ring r).drain = (s.ring r).drain
          ∧ (∀ k, (s.ring r).writer ≠ .writing k → (c.ring r).half k = (s.ring r).half k)
          ∧ (∀ k, (s.ring r).writer = .writing k → ((s.ring r).half k).count = 0 →
              (c.ring r).half k = { state := .free, count := 0, copy := none, first := none, last := none }
              ∧ (c.ring r).lastFilled = (s.ring r).lastFilled)
          ∧ (∀ k, (s.ring r).writer = .writing k → 0 < ((s.ring r).half k).count →
              (c.ring r).half k = { (s.ring r).half k with state := .full } ∧ (c.ring r).lastFilled = some k
              ∧ ∃ n ∈ c.link.notices, n.key = .ring r))

/-- RECORD START and RECORD STOP, with what they do to output and writer (the ids of R0 and R1 are log entry 7). -/
def Obligations.RecordingStartsAndStops : Prop :=
  Claims.RecordStartTakesUpAndWrites ∧ Claims.RecordStopEndsTheWriter

/-- DRAIN: refused BAD ARGUMENT for numbers out of range, WRONG STATE without a field or for a half that is not FULL, DRAIN BUSY while the other half drains; a
DRAIN that passes makes the half DRAINING with no unit sent, and the half header goes out.  The ids 4 and 5 of R0 and R1, and the refusal of every other id, are
the model's reading (log entry 7). -/
def Claims.DrainBegins : Prop :=
  ∀ (h : Head) (output half : Nat) (s : State), Heard h s →
    (output < 4 ∨ 6 ≤ output ∨ 2 ≤ half → Refuses (.drain h output half) s .badArgument)
    ∧ ∀ (r : RecId) (k : HalfId), output = r.val + 4 → half = k.val →
      let x := (s.ring r).half k
      ((s.ring r).field = none ∨ x.state ≠ .full → Refuses (.drain h output half) s .wrongState)
      ∧ ((s.ring r).field ≠ none → x.state = .full → ((s.ring r).half (otherHalf k)).state = .draining →
          Refuses (.drain h output half) s .drainBusy)
      ∧ ((s.ring r).field ≠ none → x.state = .full → ((s.ring r).half (otherHalf k)).state ≠ .draining →
          ∀ copy first last, x.copy = some copy → x.first = some first → x.last = some last → ∃ c, Acks (.drain h output half) s c
            ∧ c = { s.toBlock with
                    ringWriter := { s.ringWriter with rings := c.ringWriter.rings }, ports := { s.ports with record := c.ports.record } }
            ∧ c.ring r = { (s.ring r).setHalf k { x with state := .draining } with drain := some { half := k, sent := 0 } }
            ∧ (∀ v, v ≠ r → c.ring v = s.ring v ∧ c.ports.record.get v = s.ports.record.get v)
            ∧ c.ports.record.get r = s.ports.record.get r ++ [.header r k copy x.count first last])

/-- The units of a drain: each sends the 192 stored bytes of the next unit of its half, in order, from the place where the Ring Writer stored them; with all sent, or
without a drain, the event changes nothing (log entry 10).  A byte that nothing has written stops the machine (log entry 5). -/
def Claims.DrainSendsStoredUnits : Prop :=
  ∀ (r : RecId) (s : State),
    ((s.ring r).drain = none ∨ (s.ring r).field = none
        ∨ (∃ d, (s.ring r).drain = some d ∧ ((s.ring r).half d.half).count ≤ d.sent) → Makes (.drainUnitSent r) s s.toBlock)
    ∧ ∀ d f, (s.ring r).drain = some d → (s.ring r).field = some f → d.sent < ((s.ring r).half d.half).count →
      let base := f.base * 65536 + (d.half.val * f.capacity + d.sent) * 192
      (∀ bytes : List Byte, bytes.length = 192 → (∀ n v, bytes[n]? = some v → s.ringWriter.memory.read (base + n) = some v) →
        ∃ c, Makes (.drainUnitSent r) s c
          ∧ c = { s.toBlock with
                  ringWriter := { s.ringWriter with rings := c.ringWriter.rings }, ports := { s.ports with record := c.ports.record } }
          ∧ c.ring r = { s.ring r with drain := some { d with sent := d.sent + 1 } }
          ∧ (∀ v, v ≠ r → c.ring v = s.ring v ∧ c.ports.record.get v = s.ports.record.get v)
          ∧ c.ports.record.get r = s.ports.record.get r ++ [.unit bytes])
      ∧ ((∃ n < 192, s.ringWriter.memory.read (base + n) = none) → ∃ a, s.ringWriter.memory.read a = none
          ∧ exec (.drainUnitSent r) s = .fault (.bufferByteUnwritten a))

/-- A drain's end: the units still to send go out, which is the model's reading (log entry 28), then the end mark with the half's count; the half becomes FREE,
the drain idle, a RING notice shows the ring as it now stands, and a writer that waits on this half, or on whichever completes first, goes on in it.  Without a
drain in flight nothing happens (log entry 10), and the bytes are those of the buffer memory of log entry 5. -/
def Claims.DrainCompletes : Prop :=
  ∀ (r : RecId) (s : State),
    ((s.ring r).drain = none ∨ (s.ring r).field = none → Makes (.drainCompletion r) s s.toBlock)
    ∧ ∀ d f, (s.ring r).drain = some d → (s.ring r).field = some f → UnitsWritten s.toBlock →
      let x := (s.ring r).half d.half
      let freed : Half := { state := .free, count := 0, copy := none, first := none, last := none }
      let waits := ∃ on overrun, (s.ring r).writer = .waiting on overrun ∧ (on = none ∨ on = some d.half)
      ∃ c units, Makes (.drainCompletion r) s c
        ∧ c = { s.toBlock with
                link := { s.link with notices := c.link.notices }
                ringWriter := { s.ringWriter with rings := c.ringWriter.rings }
                ports := { s.ports with record := c.ports.record } }
        ∧ (∀ v, v ≠ r → c.ring v = s.ring v ∧ c.ports.record.get v = s.ports.record.get v)
        ∧ c.ports.record.get r = s.ports.record.get r ++ units ++ [.endMark r d.half x.count]
        ∧ units.length = x.count - d.sent
        ∧ (∀ n u, units[n]? = some u → ∃ bytes : List Byte, u = .unit bytes ∧ bytes.length = 192 ∧ ∀ i v, bytes[i]? = some v →
            s.ringWriter.memory.read (f.base * 65536 + (d.half.val * f.capacity + (d.sent + n)) * 192 + i) = some v)
        ∧ (¬ waits → c.ring r = { (s.ring r).setHalf d.half freed with drain := none })
        ∧ (waits → c.ring r = { (s.ring r).setHalf d.half { freed with state := .filling } with drain := none, writer := .writing d.half })
        ∧ (∃ n ∈ c.link.notices, n.key = .ring r ∧ ∃ v, n.body = .ring r v ((c.ring r).halves.toList.map fun y => (y.state, y.count)) none
            ∧ (c.ring r).writer.shownAs v)
        ∧ PostsOnly (fun k => k = .ring r) s.toBlock c

/-- A drain from its request through its units to its end (the ids of R0 and R1 are log entry 7). -/
def Obligations.DrainsSendWhatWasStored : Prop :=
  Claims.DrainBegins ∧ Claims.DrainSendsStoredUnits ∧ Claims.DrainCompletes

/-! ## Guide cells and the clocks -/

/-- What the assembly of an input makes of a guide cell: a scrambled cell, or one that continues nothing or out of sequence, clears it; a start cell begins anew; a
section whose stated length is over 4096 is given up, and one whose length is reached is complete. -/
def Claims.SectionsAreAssembled : Prop :=
  ∀ (a : Assembly) (c : Cell),
    let out := a.take c
    let gone := out.1.partialSection = none ∧ out.2 = none
    let settled := fun (collected : Nat) (total : Option Nat) =>
      (total = none → out.2 = none ∧ ∃ p, out.1.partialSection = some p ∧ p.collected = collected ∧ p.total = none)
      ∧ ∀ n, total = some n →
          (4096 < n → gone)
          ∧ (n ≤ 4096 → n ≤ collected → out.1.partialSection = none ∧ out.2 = c.guideSection)
          ∧ (n ≤ 4096 → collected < n → out.2 = none ∧ ∃ p, out.1.partialSection = some p ∧ p.collected = collected ∧ p.total = some n)
    out.1.last = some c.count
    ∧ (c.scramble ≠ .clear → gone)
    ∧ (c.scramble = .clear → c.start = true → settled c.payloadLength c.statedTotal)
    ∧ (c.scramble = .clear → c.start = false → (a.partialSection = none ∨ ∀ n, a.last = some n → c.count ≠ (n + 1) % 16) → gone)
    ∧ (∀ p n, c.scramble = .clear → c.start = false → a.partialSection = some p → a.last = some n → c.count = (n + 1) % 16 →
        settled (p.collected + c.payloadLength) (match p.total with | some x => some x | none => c.statedTotal))

/-- The guide block with an input's assembly advanced by a cell and its copy taken. -/
def guideCellTaken (s : State) (i : TunerId) (c : Cell) : Block :=
  { copyTaken s (.guide i c) with
    guide := { s.guide with assemblies := vset s.guide.assemblies i ((s.guide.assemblies.get i).take c).1 } }

/-- A guide copy that is not the next one of its input and label does nothing (log entries 3 and 10).  Any other advances the assembly of its input alone, and where it completes no section, or one whose check does not agree, whose number lies past its last, whose
kind is another, or whose offset is out of range, that is all. -/
def Claims.GuideCellsAdvanceAssemblies : Prop :=
  ∀ (i : TunerId) (c : Cell) (s : State),
    let done := ((s.guide.assemblies.get i).take c).2
    (¬ NextCopy s (.guide i c) → Makes (.guideCell i c) s s.toBlock)
    ∧ (NextCopy s (.guide i c) → done = none → Makes (.guideCell i c) s (guideCellTaken s i c))
    ∧ ∀ x, NextCopy s (.guide i c) → done = some x →
      (x.checkAgrees = false
        ∨ x.body = .other
        ∨ (∃ v n l ms ss, x.body = .serviceMap v n l ms ss ∧ (l < n ∨ s.guide.mapVersion = some v))
        ∨ (∃ v n l sv es, x.body = .eventBlock v n l sv es ∧ (l < n ∨ s.guide.service? sv = none))
        ∨ (∃ u off ch, x.body = .time u off ch ∧ (off < -720 ∨ 840 < off ∨ ∃ y, ch = some y ∧ (y.offset < -720 ∨ 840 < y.offset))) →
        Makes (.guideCell i c) s (guideCellTaken s i c))

/-- Guide cells advance the assembly of their input, and sections that are incomplete or of no use do nothing more. -/
def Obligations.GuideCellsAreAssembled : Prop :=
  Claims.SectionsAreAssembled ∧ Claims.GuideCellsAdvanceAssemblies

/-- The time base that a TIME section sets (R34): its UTC and offset, or the announced offset where its time has come, else the announcement kept. -/
def timeOf (utc : Nat) (offset : Int) (change : Option OffsetChange) : TimeBase :=
  match change with
  | some y => if y.due ≤ utc then { utc := some utc, offset := y.offset, change := none } else { utc := some utc, offset := offset, change := change }
  | none => { utc := some utc, offset := offset, change := none }

/-- A TIME section that agrees sets the time base, which brings a STARTING device with a map to RUNNING; a change of the time base posts a TIME notice, and a change of
UTC or of the offset is handed on: every current event is selected; a due stop-at is cleared, takes an awake presentation output that is not CONTAINED to
REST LIGHT and clears the hold flag of a light rest; lapsed entries go; exactly the records an hour past their end that no
output shows go, with a PURCHASE notice; the spent seconds of a new day start over; and every verdict is evaluated.  That stop-ats and cleanup come after the first evaluations
is the model's choice (log entry 16), so that a list which cleanup takes from full to not full gives no offer in this change: the clause on verdicts leaves that
case out.  The cell is the next guide copy of its input and label (log entry 3). -/
def Obligations.TimeSectionsSetTheTime : Prop :=
  ∀ (i : TunerId) (c : Cell) (utc : Nat) (offset : Int) (change : Option OffsetChange) (s : State),
    NextCopy s (.guide i c) →
    ((s.guide.assemblies.get i).take c).2 = some { body := .time utc offset change, checkAgrees := true } →
    -720 ≤ offset → offset ≤ 840 → (∀ y, change = some y → -720 ≤ y.offset ∧ y.offset ≤ 840) →
    ∃ b, Makes (.guideCell i c) s b
      ∧ b.guide = { (guideCellTaken s i c).guide with time := timeOf utc offset change }
      ∧ b.filter = (guideCellTaken s i c).filter ∧ b.pool = s.pool ∧ b.keys = s.keys ∧ b.ringWriter = s.ringWriter ∧ b.ports = s.ports
      ∧ b.engines = { s.engines with outputs := b.engines.outputs }
      ∧ b.link.device = (if s.link.device = .starting ∧ s.guide.time.utc = none ∧ s.guide.mapVersion ≠ none then .running else s.link.device)
      ∧ (timeOf utc offset change ≠ s.guide.time → ∃ n ∈ b.link.notices, n.key = .time)
      ∧ (timeOf utc offset change = s.guide.time → b = guideCellTaken s i c)
      ∧ (some utc = s.guide.time.utc → (timeOf utc offset change).offset = s.guide.time.offset →
          b.engines = s.engines ∧ b.account = s.account ∧ b.purchases = s.purchases ∧ b.profiles = s.profiles)
      ∧ ((some utc ≠ s.guide.time.utc ∨ (timeOf utc offset change).offset ≠ s.guide.time.offset) →
          b.account = { s.account with
            entitlements := s.account.entitlements.filter fun e => decide (utc < e.expiry) && decide (utc < e.renewBy)
            serviceKeys := s.account.serviceKeys.filter fun r => decide (utc < r.validUntil) }
          ∧ (∀ o p, (s.out o).part = some p → (b.out o).part = some p ∧ (b.out o).current = b.currentFor p.service)
          ∧ (∀ o t, (s.out o).stopAt = some t → (b.out o).stopAt = if t ≤ utc then none else some t)
          ∧ (∀ o, o.val < 4 → (s.out o).part ≠ none →
              let x := s.out o
              let y := b.out o
              let due := ∃ t, x.stopAt = some t ∧ t ≤ utc
              let stays := y.restLevel = x.restLevel ∧ y.restSeconds = x.restSeconds ∧ y.tolerance = x.tolerance
              (¬ due → stays ∧ y.hold = x.hold)
              ∧ (due → x.restLevel = .awake → x.fault.reason = none →
                  y.restLevel = .light ∧ y.delivery = .restLight ∧ y.restSeconds = 0 ∧ y.hold = false ∧ y.verdict = none
                  ∧ (∃ v, y.tolerance = some v ∧ spanLength v = 0) ∧ ∃ n ∈ b.link.notices, n.key = .output o)
              ∧ (due → x.restLevel = .awake → x.fault.reason ≠ none → stays ∧ y.delivery = .contained)
              ∧ (due → x.restLevel = .light → x.delivery = .restLight → stays ∧ y.delivery = .restLight ∧ y.hold = false)
              ∧ (due → x.restLevel = .deep → x.delivery = .restDeep → stays ∧ y.delivery = .restDeep))
          ∧ cleanedList b s.purchases b.purchases
          ∧ ((∃ p ∈ s.purchases, cleanedUp b p) → ∃ n ∈ b.link.notices, n.key = .purchase)
          ∧ ((∀ p ∈ s.purchases, ¬ cleanedUp b p) ∨ s.purchases.length + 6 ≤ 32 → ∀ o, UpToDate b o)
          ∧ ∀ p d, (timeOf utc offset change).day? = some d → (b.profile p).day = max (s.profile p).day d
              ∧ (b.profile p).spent = if (s.profile p).day < d then 0 else (s.profile p).spent)

/-- A SERVICE MAP section: the version applied is passed over; a section of the version gathered is held, in ascending number, until every number from 0 to the last is
there, one of another version or last number begins anew; the complete map replaces both tables whole, in ascending order, drops the events of services that have left, and brings a STARTING
device with time to RUNNING. -/
def Claims.CompleteMapsAreApplied : Prop :=
  ∀ (i : TunerId) (c : Cell) (version number last : Nat) (muxes : List MuxEntry) (services : List ServiceEntry) (s : State),
    NextCopy s (.guide i c) →
    ((s.guide.assemblies.get i).take c).2 = some { body := .serviceMap version number last muxes services, checkAgrees := true } →
    number ≤ last → s.guide.mapVersion ≠ some version →
    let held := match s.guide.pendingMap with
      | some m => if m.version = version ∧ m.last = last then m.parts else []
      | none => []
    ∃ b m, Makes (.guideCell i c) s b ∧ m.version = version ∧ m.last = last
      ∧ (∀ x, x ∈ m.parts ↔ x ∈ held ∨ ((∀ y ∈ held, y.number ≠ number) ∧ x = { number := number, muxes := muxes, services := services }))
      ∧ (MapOrdered s.toBlock → m.parts.Pairwise fun x y => x.number < y.number)
      ∧ (¬ (∀ n ≤ last, ∃ x ∈ m.parts, x.number = n) → b = { guideCellTaken s i c with
          guide := { (guideCellTaken s i c).guide with pendingMap := some m } })
      ∧ ((∀ n ≤ last, ∃ x ∈ m.parts, x.number = n) →
          b.guide.mapVersion = some version ∧ b.guide.pendingMap = none ∧ b.guide.muxes = mapMuxes m ∧ b.guide.services = mapServices m
          ∧ b.guide.time = s.guide.time
          ∧ b.guide.pool = s.guide.pool.filter (fun x => b.guide.services.any fun y => decide (y.number = x.service))
          ∧ b.link.device = (if s.link.device = .starting ∧ s.guide.time.utc ≠ none then .running else s.link.device)
          ∧ (∃ n ∈ b.link.notices, n.key = .guide)
          ∧ b.account = s.account ∧ b.profiles = s.profiles ∧ b.ringWriter = s.ringWriter ∧ OffersOnly s.toBlock b
          ∧ b.engines.recalls = s.engines.recalls ∧ b.engines.bound = s.engines.bound
          ∧ (∀ o p x, (s.out o).part = some p → b.guide.service? p.service = some x → ∃ q, (b.out o).part = some q
              ∧ q.service = p.service ∧ q.version = version ∧ q.muxIndex = x.muxIndex ∧ q.video = x.video ∧ q.captions = x.captions
              ∧ q.keyLabel = x.keyLabel ∧ (b.out o).current = b.currentFor p.service)
          ∧ (∀ o p, (s.out o).part = some p → b.guide.service? p.service = none → (b.out o).part = some p ∧ (b.out o).current = none)
          ∧ ∀ o, (s.out o).part = none → b.out o = s.out o)

/-- What the applied map makes of every context that has a service (R28, R73, R74): where the service is still there, the part takes its new labels, keeping the audio index
where the service has one at it.  A context whose tuner is on the service's multiplex keeps it, with the slot of an unchanged tag; one whose service has moved takes
it up again, the outputs P0 to P3, R0 and R1 before the warm contexts, or is left without a tuner, a warm context COLD; one without a tuner requests none.  A warm
context whose service has gone is EMPTY, and every change of its state posts a WARM notice.  Contexts, tuners, labels and slots agree afterwards, and every output
has been evaluated.  Which tuner a moved context is granted where other contexts are emptied, or change their slots, rests on the model's choice that each context is done whole in
its turn (log entry 40).  The cell is the next guide copy of its input and label (log entry 3). -/
def Claims.ContextsFollowTheMap : Prop :=
  ∀ (i : TunerId) (c : Cell) (version number last : Nat) (muxes : List MuxEntry) (services : List ServiceEntry) (s : State) (b : Block),
    NextCopy s (.guide i c) →
    ((s.guide.assemblies.get i).take c).2 = some { body := .serviceMap version number last muxes services, checkAgrees := true } →
    number ≤ last → s.guide.mapVersion ≠ some version → Makes (.guideCell i c) s b → b.guide.mapVersion = some version →
    TunersConsistent s.toBlock → SlotsConsistent s.toBlock → Settled s.toBlock →
    let goal := fun x : Service => b.guide.mux? x.muxIndex
    let moves := fun p : ServicePart => ∃ t x, p.tuner = some t ∧ b.guide.service? p.service = some x ∧ (s.tuner t).mux ≠ goal x
    let renewed := fun (p q : ServicePart) (x : Service) =>
      q.service = p.service ∧ q.version = version ∧ q.muxIndex = x.muxIndex ∧ q.video = x.video ∧ q.captions = x.captions ∧ q.keyLabel = x.keyLabel
        ∧ (∀ a, x.audios[p.audioIndex]? = some a → q.audioIndex = p.audioIndex ∧ q.audioLabel = a.label)
        ∧ (x.audios[p.audioIndex]? = none → q.audioIndex = 0 ∧ ∀ a, x.audios.head? = some a → q.audioLabel = a.label)
        ∧ (p.tuner = none → q.tuner = none)
        ∧ (∀ k, q.tuner = some k → (b.tuner k).mux = goal x)
        ∧ (q.tuner ≠ none → ¬ moves p → q.tuner = p.tuner
            ∧ (p.slot ≠ none → q.keyLabel = p.keyLabel → q.muxIndex = p.muxIndex → q.slot = p.slot))
    let outputsStay := fun o : OutId => ∀ u p, u < o → (s.out u).part = some p → ¬ moves p
    Settled b ∧ (∀ o, UpToDate b o)
    ∧ (∀ o p x, (s.out o).part = some p → b.guide.service? p.service = some x → ∃ q, (b.out o).part = some q ∧ renewed p q x
        ∧ (¬ moves p → q.tuner = p.tuner)
        ∧ (moves p → outputsStay o → ∀ m, goal x = some m → q.tuner = (chooseTuner s.pool .primary m).map (·.1)))
    ∧ (∀ w, (s.warm w).part = none → b.warm w = s.warm w)
    ∧ ∀ w p, (s.warm w).part = some p →
        (b.guide.service? p.service = none → b.warm w = { state := .empty, part := none } ∧ ∃ n ∈ b.link.notices, n.key = .warm w)
        ∧ ((b.warm w).state ≠ (s.warm w).state → ∃ n ∈ b.link.notices, n.key = .warm w)
        ∧ ∀ x, b.guide.service? p.service = some x → ∃ q, (b.warm w).part = some q ∧ renewed p q x
            ∧ (p.tuner = none → (b.warm w).state = (s.warm w).state)
            ∧ (p.tuner ≠ none → q.tuner = none → (b.warm w).state = .cold)
            ∧ (q.tuner ≠ none → ((b.warm w).state = .ready ∨ (b.warm w).state = .preparing)
                ∧ ((b.warm w).state = .ready ↔ q.signal = some .locked
                    ∧ (q.keyLabel = none ∨ ∃ r, q.slot = some r ∧ (b.slot r.slot).state = .live)))
            ∧ ((∀ o y, (s.out o).part = some y → ¬ moves y) →
                (∀ v y, v < w → (s.warm v).part = some y → ¬ moves y ∧ b.guide.service? y.service ≠ none) →
                (¬ moves p → q.tuner = p.tuner)
                ∧ (moves p → ∀ m, goal x = some m → q.tuner = (chooseTuner s.pool .warm m).map (·.1)))

/-- The tables of a complete map: a multiplex entry is kept where it fits and its index stands in no entry before it, a service entry where it fits against the kept
multiplexes and its number stands in no entry before it, the first 256 of them; both tables are in strictly ascending order.  That an entry counts as standing before it whether
kept or dropped is the model's reading (log entry 23). -/
def Claims.MapTablesKeepFirstFittingEntries : Prop :=
  ∀ m : PendingMap,
    let muxes := m.parts.flatMap (·.muxes)
    let services := m.parts.flatMap (·.services)
    let keeps := fun (s : ServiceEntry) => 1 ≤ s.number ∧ s.number ≤ 9999 ∧ (∃ x ∈ mapMuxes m, x.index = s.muxIndex) ∧ s.video ≠ 8191
      ∧ (∀ a ∈ s.audios, a.label ≠ 8191) ∧ s.captions ≠ some 8191 ∧ s.keyLabel ≠ some 8191 ∧ 1 ≤ s.audios.length ∧ s.audios.length ≤ 4
    (mapMuxes m).Pairwise (fun x y => x.index < y.index) ∧ (mapServices m).Pairwise (fun x y => x.number < y.number)
    ∧ (mapServices m).length ≤ 256
    ∧ (∀ x, x ∈ mapMuxes m ↔ ∃ pre e post, muxes = pre ++ e :: post ∧ (∀ y ∈ pre, y.index ≠ e.index)
        ∧ 50000 ≤ e.freq ∧ e.freq ≤ 1002000 ∧ e.index ≤ 63 ∧ x.index = e.index ∧ x.mux.freq = e.freq ∧ e.modulation = some x.mux.modulation)
    ∧ (∀ x ∈ mapServices m, x.version = m.version ∧ ∃ pre e post, services = pre ++ e :: post ∧ (∀ y ∈ pre, y.number ≠ e.number) ∧ keeps e
        ∧ x = { number := e.number, muxIndex := e.muxIndex, video := e.video, audios := e.audios, captions := e.captions, keyLabel := e.keyLabel
                defaultClass := e.defaultClass, version := m.version })
    ∧ ∀ pre e post, services = pre ++ e :: post → (∀ y ∈ pre, y.number ≠ e.number) → keeps e →
        (∃ x ∈ mapServices m, x.number = e.number)
        ∨ ((mapServices m).length = 256 ∧ ∀ x ∈ mapServices m, ∃ y ∈ pre, y.number = x.number)

/-- SERVICE MAP sections are gathered, a complete map replaces the tables by the first fitting entries, and the contexts follow it, each done
whole in its turn by the model's choice (log entry 40). -/
def Obligations.CompleteMapsReplaceTheTables : Prop :=
  Claims.CompleteMapsAreApplied ∧ Claims.ContextsFollowTheMap ∧ Claims.MapTablesKeepFirstFittingEntries

/-- The event record that a fitting entry makes (R29, R30): a METERED entry whose interval has length 0 is UNPRICED, a title is cut to its first 48 bytes,
and a series number of 0 is none. -/
def eventOf (version : Nat) (x : EventEntry) (e : Event) : Prop :=
  e.eventId = x.eventId ∧ e.start = x.start ∧ e.duration = x.duration ∧ e.rating = x.rating ∧ e.categories = x.categories
    ∧ e.accessClass = x.accessClass ∧ (x.priceMode = .metered → spanLength x.interval = 0 → e.priceMode = .unpriced)
    ∧ (x.priceMode ≠ .metered ∨ spanLength x.interval ≠ 0 → e.priceMode = x.priceMode)
    ∧ e.flatPrice = x.flatPrice ∧ e.rate = x.rate ∧ e.interval = x.interval ∧ e.preview = x.preview ∧ e.cap = x.cap ∧ e.copy = x.copy
    ∧ e.version = version ∧ e.title = x.title.take 48 ∧ (x.series = 0 → e.series = none) ∧ (x.series ≠ 0 → e.series = some x.series)

/-- The event that leaves a full pool for one that starts at `start` (R32): of the ended events that no output shows, the one that ended first; where there is
none, of the events that start later and that no output shows, the one that starts last; the lower service number between equals. -/
def leavesFor (b : Block) (start : Nat) (v : PoolEvent) : Prop :=
  let ended := fun y : PoolEvent => y ∈ b.guide.pool ∧ y.event.ended b.guide.time = true ∧ b.isCurrent y = false
  let later := fun y : PoolEvent => y ∈ b.guide.pool ∧ start < y.event.start ∧ b.isCurrent y = false
  (ended v ∧ ∀ y, ended y → v.event.finish < y.event.finish ∨ v.event.finish = y.event.finish ∧ v.service ≤ y.service)
    ∨ ((∀ y, ¬ ended y) ∧ later v
        ∧ ∀ y, later y → y.event.start < v.event.start ∨ y.event.start = v.event.start ∧ v.service ≤ y.service)

/-- One entry of an EVENT BLOCK against an ordered pool: an entry that does not fit is dropped, one that the pool holds in the same version changes nothing, and any
other replaces the events of its service that share its id or overlap it, a full pool first losing one event by the rule, or else the entry itself. -/
def Claims.EntriesEnterThePool : Prop :=
  ∀ (b : Block) (changed : List Nat) (service version : Nat) (x : EventEntry), PoolOrdered b →
    let w : PoolWork := { pool := b.guide.pool, changed := changed }
    let r := takeEntry b.guide.time b.isCurrent service version w x
    let fitting := x.eventId ≠ 0 ∧ x.duration ≠ 0 ∧ x.duration ≤ 86400 ∧ x.start + x.duration ≤ 4294967295
    let known := ∃ y ∈ b.guide.pool, y.service = service ∧ y.event.eventId = x.eventId ∧ y.event.version = version
    let goes := fun y : PoolEvent => y.service = service
      ∧ (y.event.eventId = x.eventId ∨ (y.event.start < x.start + x.duration ∧ x.start < y.event.start + y.event.duration))
    let full := b.guide.pool.length = 2048 ∧ ∀ y ∈ b.guide.pool, ¬ goes y
    (¬ fitting ∨ known → r = w)
    ∧ (fitting → ¬ known →
        (¬ full → ∃ e, eventOf version x e ∧ service ∈ r.changed
          ∧ ∀ y, y ∈ r.pool ↔ y = { service := service, event := e } ∨ (y ∈ b.guide.pool ∧ ¬ goes y))
        ∧ (full → ∀ v, leavesFor b x.start v → ∃ e, eventOf version x e ∧ service ∈ r.changed ∧ v.service ∈ r.changed
          ∧ ∀ y, y ∈ r.pool ↔ y = { service := service, event := e } ∨ (y ∈ b.guide.pool ∧ y ≠ v))
        ∧ (full → (∀ v, ¬ leavesFor b x.start v) → r = w))

/-- An EVENT BLOCK of a service in the table takes its entries one by one; where the pool changes a GUIDE notice is posted, and where events of its service change
the outputs of that service have their current event selected and their verdict evaluated.  That the cell is the next guide copy of its input and label is the
model's choice (log entry 3). -/
def Claims.EventBlocksAreTaken : Prop :=
  ∀ (i : TunerId) (c : Cell) (version number last service : Nat) (entries : List EventEntry) (s : State),
    NextCopy s (.guide i c) →
    ((s.guide.assemblies.get i).take c).2 = some { body := .eventBlock version number last service entries, checkAgrees := true } →
    number ≤ last → s.guide.service? service ≠ none →
    let w := entries.foldl (takeEntry s.guide.time s.isCurrent service version) { pool := s.guide.pool, changed := [] }
    ∃ b, Makes (.guideCell i c) s b
      ∧ b = { guideCellTaken s i c with
              link := { s.link with notices := b.link.notices }
              guide := { (guideCellTaken s i c).guide with pool := w.pool }
              engines := { s.engines with outputs := b.engines.outputs }
              purchases := b.purchases }
      ∧ OffersOnly s.toBlock b
      ∧ (w.changed = [] → b = guideCellTaken s i c)
      ∧ (w.changed ≠ [] → ∃ n ∈ b.link.notices, n.key = .guide)
      ∧ (service ∉ w.changed → b.engines = s.engines)
      ∧ (∀ o, (s.out o).part.map (·.service) ≠ some service → b.out o = s.out o)
      ∧ (service ∈ w.changed → ∀ o, (s.out o).part.map (·.service) = some service →
          (b.out o).part = (s.out o).part ∧ (b.out o).current = b.currentFor service ∧ UpToDate b o)

/-- EVENT BLOCK sections enter the event pool entry by entry, and what follows a change of the pool (the waiting copies are log entry 3). -/
def Obligations.EventBlocksEnterThePool : Prop :=
  Claims.EntriesEnterThePool ∧ Claims.EventBlocksAreTaken

/-! ## The other seconds clocks -/

/-- The Guide Store's second: UTC, where it is set, goes on by one up to 4,294,967,295, and an announced offset whose time has come is in force, with a TIME notice.
With time unset nothing changes. -/
def Claims.GuideSecondsCount : Prop :=
  ∀ s : State,
    (s.guide.time.utc = none → Makes .guideSecondsExpiry s s.toBlock)
    ∧ ∀ u, s.guide.time.utc = some u →
      let now := if u < 4294967295 then u + 1 else u
      ((∀ y, s.guide.time.change = some y → now < y.due) → Makes .guideSecondsExpiry s
        { s.toBlock with guide := { s.guide with time := { s.guide.time with utc := some now } } })
      ∧ ∀ y, s.guide.time.change = some y → y.due ≤ now → ∃ c, Makes .guideSecondsExpiry s c
          ∧ c = { s.toBlock with
                  link := { s.link with notices := c.link.notices }
                  guide := { s.guide with time := { utc := some now, offset := y.offset, change := none } } }
          ∧ PostsOnly (fun k => k = .time) s.toBlock c ∧ ∃ n ∈ c.link.notices, n.key = .time

/-- The Ring Writer's second: the stamp count goes on by one, from 4,294,967,295 back to 0, and nothing else changes. -/
def Claims.StampsCount : Prop :=
  ∀ s : State, Makes .ringWriterSecondsExpiry s
    { s.toBlock with ringWriter := { s.ringWriter with stamp := (s.ringWriter.stamp + 1) % 4294967296 } }

/-- The seconds clocks of the Parental Unit, the Guide Store and the Ring Writer. -/
def Obligations.ParentalGuideAndRingSecondsCount : Prop :=
  Claims.ParentalSecondCounts ∧ Claims.GuideSecondsCount ∧ Claims.StampsCount

/-- The Output Engines' second: every output's current event is selected; a stop-at that is due is cleared, takes an awake presentation output that is not CONTAINED to
REST LIGHT and clears the hold flag of a light rest; an output in REST LIGHT counts the second and deepens where it is not held and the deepen span has passed; a
LIVE output counts a second of silence, and the second one raises STREAM SILENCE; where no output rests or stops, every verdict is evaluated.  Which of a stop-at and
a rest second comes first is the operand (log entry 9). -/
def Obligations.OutputSecondsCount : Prop :=
  ∀ (order : ExpiryOrder) (s : State), DeliveryFollows s.toBlock → ∃ c, Makes (.outputEnginesSecondsExpiry order) s c
    ∧ TakesUpOnly s.toBlock c ∧ c.engines = { s.engines with outputs := c.engines.outputs }
    ∧ c.keys = (outIds.filter fun o => decide ((s.out o).restLevel ≠ .deep) && decide ((c.out o).restLevel = .deep)).foldl
        (fun u o => u.leaveRef (.out o) (s.toBlock.slotOf (.out o))) s.keys
    ∧ (∀ o p, (s.out o).part = some p → (c.out o).current = s.currentFor p.service)
    ∧ (∀ o t, (s.out o).stopAt = some t → (c.out o).stopAt = if s.guide.time.reached t = true then none else some t)
    ∧ (∀ o, (s.out o).stopAt = none → (c.out o).stopAt = none)
    ∧ (∀ o, let x := s.out o
        let y := c.out o
        let due := ∃ t u, x.stopAt = some t ∧ s.guide.time.utc = some u ∧ t ≤ u
        let seconds := min (x.restSeconds + 1) 65535
        let deepens := (x.hold = false ∨ (due ∧ order = .stopAtFirst)) ∧ spanLength s.engines.deepen ≤ seconds
        (o.val < 4 → x.part ≠ none → x.restLevel = .awake → x.fault.reason = none → due →
          y.verdict = none ∧ y.hold = false ∧ (∃ v, y.tolerance = some v ∧ spanLength v = 0)
          ∧ (order = .deepeningFirst → y.restLevel = .light ∧ y.delivery = .restLight ∧ y.restSeconds = 0 ∧ y.part = x.part)
          ∧ (order = .stopAtFirst → 1 < spanLength s.engines.deepen →
              y.restLevel = .light ∧ y.delivery = .restLight ∧ y.restSeconds = 1 ∧ y.part = x.part)
          ∧ (order = .stopAtFirst → spanLength s.engines.deepen ≤ 1 →
              y.restLevel = .deep ∧ y.delivery = .restDeep ∧ y.restSeconds = 0 ∧ GivenUp (.out o) s.toBlock c))
        ∧ (x.restLevel = .light → y.verdict = none ∧ y.tolerance = x.tolerance ∧ (due → y.hold = false) ∧ (¬ due → y.hold = x.hold)
          ∧ (¬ deepens → y.restLevel = .light ∧ y.delivery = .restLight ∧ y.restSeconds = seconds ∧ y.part = x.part)
          ∧ (deepens → y.restLevel = .deep ∧ y.delivery = .restDeep ∧ y.restSeconds = 0 ∧ y.override = none
              ∧ y.part = x.part.map (fun p => { p with tuner := none, signal := none, slot := none })
              ∧ GivenUp (.out o) s.toBlock c ∧ ∃ n ∈ c.link.notices, n.key = .output o))
        ∧ (x.restLevel = .deep → y.restLevel = .deep ∧ y.delivery = .restDeep ∧ y.verdict = none ∧ y.part = x.part
            ∧ y.restSeconds = x.restSeconds ∧ y.tolerance = x.tolerance ∧ y.hold = x.hold)
        ∧ (x.delivery = .live → y.delivery = .live → y.silence = (if x.silence < 2 then x.silence + 1 else x.silence)
            ∧ (x.silence = 1 → FaultClass.streamSilence ∉ x.fault.mask → FaultClass.streamSilence ∈ y.fault.status)))
    ∧ ((∀ o, (s.out o).restLevel = .awake ∧ ∀ t, (s.out o).stopAt = some t → s.guide.time.reached t = false) → ∀ o, UpToDate c o)
end

