-- ==== Sys2Proof/Laws/State.lean ====
section
/-! SUPPORT. One lemma per field for every update of the block: what an update leaves alone, and what it writes. -/

namespace Sys2Proof.Machine

/-! ## Vectors -/

/-- The place that was replaced holds the new value. -/
@[simp] theorem vset_get_same {α : Type} {n : Nat} (v : Vector α n) (i : Fin n) (x : α) : (vset v i x).get i = x := by
  simp [vset, Vector.get_eq_getElem]

/-- Every other place keeps its value. -/
theorem vset_get_other {α : Type} {n : Nat} (v : Vector α n) {i j : Fin n} (x : α) (h : j ≠ i) : (vset v i x).get j = v.get j := by
  have h' : i.val ≠ j.val := fun e => h (Fin.ext e.symm)
  simp [vset, Vector.get_eq_getElem, h']

/-- Both at once. -/
theorem vset_get {α : Type} {n : Nat} (v : Vector α n) (i j : Fin n) (x : α) :
    (vset v i x).get j = if j = i then x else v.get j := by
  by_cases h : j = i
  · subst h; simp
  · simp [vset_get_other v x h, h]

/-! ## What the updates of the block leave alone -/

@[simp] theorem Block.setTuner_link (b : Block) (t : TunerId) (x : Tuner) : (b.setTuner t x).link = b.link := rfl
@[simp] theorem Block.setTuner_filter (b : Block) (t : TunerId) (x : Tuner) : (b.setTuner t x).filter = b.filter := rfl
@[simp] theorem Block.setTuner_engines (b : Block) (t : TunerId) (x : Tuner) : (b.setTuner t x).engines = b.engines := rfl
@[simp] theorem Block.setTuner_keys (b : Block) (t : TunerId) (x : Tuner) : (b.setTuner t x).keys = b.keys := rfl
@[simp] theorem Block.setTuner_account (b : Block) (t : TunerId) (x : Tuner) : (b.setTuner t x).account = b.account := rfl
@[simp] theorem Block.setTuner_purchases (b : Block) (t : TunerId) (x : Tuner) : (b.setTuner t x).purchases = b.purchases := rfl
@[simp] theorem Block.setTuner_guide (b : Block) (t : TunerId) (x : Tuner) : (b.setTuner t x).guide = b.guide := rfl
@[simp] theorem Block.setTuner_profiles (b : Block) (t : TunerId) (x : Tuner) : (b.setTuner t x).profiles = b.profiles := rfl
@[simp] theorem Block.setTuner_ringWriter (b : Block) (t : TunerId) (x : Tuner) : (b.setTuner t x).ringWriter = b.ringWriter := rfl
@[simp] theorem Block.setTuner_ports (b : Block) (t : TunerId) (x : Tuner) : (b.setTuner t x).ports = b.ports := rfl

@[simp] theorem Block.setTable_link (b : Block) (i : TunerId) (x : List LabelEntry) : (b.setTable i x).link = b.link := rfl
@[simp] theorem Block.setTable_pool (b : Block) (i : TunerId) (x : List LabelEntry) : (b.setTable i x).pool = b.pool := rfl
@[simp] theorem Block.setTable_engines (b : Block) (i : TunerId) (x : List LabelEntry) : (b.setTable i x).engines = b.engines := rfl
@[simp] theorem Block.setTable_keys (b : Block) (i : TunerId) (x : List LabelEntry) : (b.setTable i x).keys = b.keys := rfl
@[simp] theorem Block.setTable_account (b : Block) (i : TunerId) (x : List LabelEntry) : (b.setTable i x).account = b.account := rfl
@[simp] theorem Block.setTable_purchases (b : Block) (i : TunerId) (x : List LabelEntry) : (b.setTable i x).purchases = b.purchases := rfl
@[simp] theorem Block.setTable_guide (b : Block) (i : TunerId) (x : List LabelEntry) : (b.setTable i x).guide = b.guide := rfl
@[simp] theorem Block.setTable_profiles (b : Block) (i : TunerId) (x : List LabelEntry) : (b.setTable i x).profiles = b.profiles := rfl
@[simp] theorem Block.setTable_ringWriter (b : Block) (i : TunerId) (x : List LabelEntry) : (b.setTable i x).ringWriter = b.ringWriter := rfl
@[simp] theorem Block.setTable_ports (b : Block) (i : TunerId) (x : List LabelEntry) : (b.setTable i x).ports = b.ports := rfl

@[simp] theorem Block.setOut_link (b : Block) (o : OutId) (x : Output) : (b.setOut o x).link = b.link := rfl
@[simp] theorem Block.setOut_pool (b : Block) (o : OutId) (x : Output) : (b.setOut o x).pool = b.pool := rfl
@[simp] theorem Block.setOut_filter (b : Block) (o : OutId) (x : Output) : (b.setOut o x).filter = b.filter := rfl
@[simp] theorem Block.setOut_keys (b : Block) (o : OutId) (x : Output) : (b.setOut o x).keys = b.keys := rfl
@[simp] theorem Block.setOut_account (b : Block) (o : OutId) (x : Output) : (b.setOut o x).account = b.account := rfl
@[simp] theorem Block.setOut_purchases (b : Block) (o : OutId) (x : Output) : (b.setOut o x).purchases = b.purchases := rfl
@[simp] theorem Block.setOut_guide (b : Block) (o : OutId) (x : Output) : (b.setOut o x).guide = b.guide := rfl
@[simp] theorem Block.setOut_profiles (b : Block) (o : OutId) (x : Output) : (b.setOut o x).profiles = b.profiles := rfl
@[simp] theorem Block.setOut_ringWriter (b : Block) (o : OutId) (x : Output) : (b.setOut o x).ringWriter = b.ringWriter := rfl
@[simp] theorem Block.setOut_ports (b : Block) (o : OutId) (x : Output) : (b.setOut o x).ports = b.ports := rfl

@[simp] theorem Block.setWarm_link (b : Block) (p : PresId) (x : Warm) : (b.setWarm p x).link = b.link := rfl
@[simp] theorem Block.setWarm_pool (b : Block) (p : PresId) (x : Warm) : (b.setWarm p x).pool = b.pool := rfl
@[simp] theorem Block.setWarm_filter (b : Block) (p : PresId) (x : Warm) : (b.setWarm p x).filter = b.filter := rfl
@[simp] theorem Block.setWarm_keys (b : Block) (p : PresId) (x : Warm) : (b.setWarm p x).keys = b.keys := rfl
@[simp] theorem Block.setWarm_account (b : Block) (p : PresId) (x : Warm) : (b.setWarm p x).account = b.account := rfl
@[simp] theorem Block.setWarm_purchases (b : Block) (p : PresId) (x : Warm) : (b.setWarm p x).purchases = b.purchases := rfl
@[simp] theorem Block.setWarm_guide (b : Block) (p : PresId) (x : Warm) : (b.setWarm p x).guide = b.guide := rfl
@[simp] theorem Block.setWarm_profiles (b : Block) (p : PresId) (x : Warm) : (b.setWarm p x).profiles = b.profiles := rfl
@[simp] theorem Block.setWarm_ringWriter (b : Block) (p : PresId) (x : Warm) : (b.setWarm p x).ringWriter = b.ringWriter := rfl
@[simp] theorem Block.setWarm_ports (b : Block) (p : PresId) (x : Warm) : (b.setWarm p x).ports = b.ports := rfl

@[simp] theorem Block.setRecalls_link (b : Block) (p : PresId) (x : List RecallRecord) : (b.setRecalls p x).link = b.link := rfl
@[simp] theorem Block.setRecalls_pool (b : Block) (p : PresId) (x : List RecallRecord) : (b.setRecalls p x).pool = b.pool := rfl
@[simp] theorem Block.setRecalls_filter (b : Block) (p : PresId) (x : List RecallRecord) : (b.setRecalls p x).filter = b.filter := rfl
@[simp] theorem Block.setRecalls_keys (b : Block) (p : PresId) (x : List RecallRecord) : (b.setRecalls p x).keys = b.keys := rfl
@[simp] theorem Block.setRecalls_account (b : Block) (p : PresId) (x : List RecallRecord) : (b.setRecalls p x).account = b.account := rfl
@[simp] theorem Block.setRecalls_purchases (b : Block) (p : PresId) (x : List RecallRecord) : (b.setRecalls p x).purchases = b.purchases := rfl
@[simp] theorem Block.setRecalls_guide (b : Block) (p : PresId) (x : List RecallRecord) : (b.setRecalls p x).guide = b.guide := rfl
@[simp] theorem Block.setRecalls_profiles (b : Block) (p : PresId) (x : List RecallRecord) : (b.setRecalls p x).profiles = b.profiles := rfl
@[simp] theorem Block.setRecalls_ringWriter (b : Block) (p : PresId) (x : List RecallRecord) : (b.setRecalls p x).ringWriter = b.ringWriter := rfl
@[simp] theorem Block.setRecalls_ports (b : Block) (p : PresId) (x : List RecallRecord) : (b.setRecalls p x).ports = b.ports := rfl

@[simp] theorem Block.setProfile_link (b : Block) (p : ProfileId) (x : Profile) : (b.setProfile p x).link = b.link := rfl
@[simp] theorem Block.setProfile_pool (b : Block) (p : ProfileId) (x : Profile) : (b.setProfile p x).pool = b.pool := rfl
@[simp] theorem Block.setProfile_filter (b : Block) (p : ProfileId) (x : Profile) : (b.setProfile p x).filter = b.filter := rfl
@[simp] theorem Block.setProfile_engines (b : Block) (p : ProfileId) (x : Profile) : (b.setProfile p x).engines = b.engines := rfl
@[simp] theorem Block.setProfile_keys (b : Block) (p : ProfileId) (x : Profile) : (b.setProfile p x).keys = b.keys := rfl
@[simp] theorem Block.setProfile_account (b : Block) (p : ProfileId) (x : Profile) : (b.setProfile p x).account = b.account := rfl
@[simp] theorem Block.setProfile_purchases (b : Block) (p : ProfileId) (x : Profile) : (b.setProfile p x).purchases = b.purchases := rfl
@[simp] theorem Block.setProfile_guide (b : Block) (p : ProfileId) (x : Profile) : (b.setProfile p x).guide = b.guide := rfl
@[simp] theorem Block.setProfile_ringWriter (b : Block) (p : ProfileId) (x : Profile) : (b.setProfile p x).ringWriter = b.ringWriter := rfl
@[simp] theorem Block.setProfile_ports (b : Block) (p : ProfileId) (x : Profile) : (b.setProfile p x).ports = b.ports := rfl

@[simp] theorem Block.setRing_link (b : Block) (r : RecId) (x : Ring) : (b.setRing r x).link = b.link := rfl
@[simp] theorem Block.setRing_pool (b : Block) (r : RecId) (x : Ring) : (b.setRing r x).pool = b.pool := rfl
@[simp] theorem Block.setRing_filter (b : Block) (r : RecId) (x : Ring) : (b.setRing r x).filter = b.filter := rfl
@[simp] theorem Block.setRing_engines (b : Block) (r : RecId) (x : Ring) : (b.setRing r x).engines = b.engines := rfl
@[simp] theorem Block.setRing_keys (b : Block) (r : RecId) (x : Ring) : (b.setRing r x).keys = b.keys := rfl
@[simp] theorem Block.setRing_account (b : Block) (r : RecId) (x : Ring) : (b.setRing r x).account = b.account := rfl
@[simp] theorem Block.setRing_purchases (b : Block) (r : RecId) (x : Ring) : (b.setRing r x).purchases = b.purchases := rfl
@[simp] theorem Block.setRing_guide (b : Block) (r : RecId) (x : Ring) : (b.setRing r x).guide = b.guide := rfl
@[simp] theorem Block.setRing_profiles (b : Block) (r : RecId) (x : Ring) : (b.setRing r x).profiles = b.profiles := rfl
@[simp] theorem Block.setRing_ports (b : Block) (r : RecId) (x : Ring) : (b.setRing r x).ports = b.ports := rfl

@[simp] theorem Block.reply_pool (b : Block) (tag : Byte) (body : ReplyBody) : (b.reply tag body).pool = b.pool := rfl
@[simp] theorem Block.reply_filter (b : Block) (tag : Byte) (body : ReplyBody) : (b.reply tag body).filter = b.filter := rfl
@[simp] theorem Block.reply_engines (b : Block) (tag : Byte) (body : ReplyBody) : (b.reply tag body).engines = b.engines := rfl
@[simp] theorem Block.reply_keys (b : Block) (tag : Byte) (body : ReplyBody) : (b.reply tag body).keys = b.keys := rfl
@[simp] theorem Block.reply_account (b : Block) (tag : Byte) (body : ReplyBody) : (b.reply tag body).account = b.account := rfl
@[simp] theorem Block.reply_purchases (b : Block) (tag : Byte) (body : ReplyBody) : (b.reply tag body).purchases = b.purchases := rfl
@[simp] theorem Block.reply_guide (b : Block) (tag : Byte) (body : ReplyBody) : (b.reply tag body).guide = b.guide := rfl
@[simp] theorem Block.reply_profiles (b : Block) (tag : Byte) (body : ReplyBody) : (b.reply tag body).profiles = b.profiles := rfl
@[simp] theorem Block.reply_ringWriter (b : Block) (tag : Byte) (body : ReplyBody) : (b.reply tag body).ringWriter = b.ringWriter := rfl
@[simp] theorem Block.reply_ports (b : Block) (tag : Byte) (body : ReplyBody) : (b.reply tag body).ports = b.ports := rfl

@[simp] theorem Block.post_pool (b : Block) (k : NoticeKey) (n : NoticeBody) : (b.post k n).pool = b.pool := rfl
@[simp] theorem Block.post_filter (b : Block) (k : NoticeKey) (n : NoticeBody) : (b.post k n).filter = b.filter := rfl
@[simp] theorem Block.post_engines (b : Block) (k : NoticeKey) (n : NoticeBody) : (b.post k n).engines = b.engines := rfl
@[simp] theorem Block.post_keys (b : Block) (k : NoticeKey) (n : NoticeBody) : (b.post k n).keys = b.keys := rfl
@[simp] theorem Block.post_account (b : Block) (k : NoticeKey) (n : NoticeBody) : (b.post k n).account = b.account := rfl
@[simp] theorem Block.post_purchases (b : Block) (k : NoticeKey) (n : NoticeBody) : (b.post k n).purchases = b.purchases := rfl
@[simp] theorem Block.post_guide (b : Block) (k : NoticeKey) (n : NoticeBody) : (b.post k n).guide = b.guide := rfl
@[simp] theorem Block.post_profiles (b : Block) (k : NoticeKey) (n : NoticeBody) : (b.post k n).profiles = b.profiles := rfl
@[simp] theorem Block.post_ringWriter (b : Block) (k : NoticeKey) (n : NoticeBody) : (b.post k n).ringWriter = b.ringWriter := rfl
@[simp] theorem Block.post_ports (b : Block) (k : NoticeKey) (n : NoticeBody) : (b.post k n).ports = b.ports := rfl

@[simp] theorem Block.postOutput_pool (b : Block) (o : OutId) : (b.postOutput o).pool = b.pool := rfl
@[simp] theorem Block.postOutput_filter (b : Block) (o : OutId) : (b.postOutput o).filter = b.filter := rfl
@[simp] theorem Block.postOutput_engines (b : Block) (o : OutId) : (b.postOutput o).engines = b.engines := rfl
@[simp] theorem Block.postOutput_keys (b : Block) (o : OutId) : (b.postOutput o).keys = b.keys := rfl
@[simp] theorem Block.postOutput_account (b : Block) (o : OutId) : (b.postOutput o).account = b.account := rfl
@[simp] theorem Block.postOutput_purchases (b : Block) (o : OutId) : (b.postOutput o).purchases = b.purchases := rfl
@[simp] theorem Block.postOutput_guide (b : Block) (o : OutId) : (b.postOutput o).guide = b.guide := rfl
@[simp] theorem Block.postOutput_profiles (b : Block) (o : OutId) : (b.postOutput o).profiles = b.profiles := rfl
@[simp] theorem Block.postOutput_ringWriter (b : Block) (o : OutId) : (b.postOutput o).ringWriter = b.ringWriter := rfl
@[simp] theorem Block.postOutput_ports (b : Block) (o : OutId) : (b.postOutput o).ports = b.ports := rfl

@[simp] theorem Block.postWarm_pool (b : Block) (p : PresId) : (b.postWarm p).pool = b.pool := rfl
@[simp] theorem Block.postWarm_filter (b : Block) (p : PresId) : (b.postWarm p).filter = b.filter := rfl
@[simp] theorem Block.postWarm_engines (b : Block) (p : PresId) : (b.postWarm p).engines = b.engines := rfl
@[simp] theorem Block.postWarm_keys (b : Block) (p : PresId) : (b.postWarm p).keys = b.keys := rfl
@[simp] theorem Block.postWarm_account (b : Block) (p : PresId) : (b.postWarm p).account = b.account := rfl
@[simp] theorem Block.postWarm_purchases (b : Block) (p : PresId) : (b.postWarm p).purchases = b.purchases := rfl
@[simp] theorem Block.postWarm_guide (b : Block) (p : PresId) : (b.postWarm p).guide = b.guide := rfl
@[simp] theorem Block.postWarm_profiles (b : Block) (p : PresId) : (b.postWarm p).profiles = b.profiles := rfl
@[simp] theorem Block.postWarm_ringWriter (b : Block) (p : PresId) : (b.postWarm p).ringWriter = b.ringWriter := rfl
@[simp] theorem Block.postWarm_ports (b : Block) (p : PresId) : (b.postWarm p).ports = b.ports := rfl

@[simp] theorem Block.postRing_pool (b : Block) (r : RecId) : (b.postRing r).pool = b.pool := rfl
@[simp] theorem Block.postRing_filter (b : Block) (r : RecId) : (b.postRing r).filter = b.filter := rfl
@[simp] theorem Block.postRing_engines (b : Block) (r : RecId) : (b.postRing r).engines = b.engines := rfl
@[simp] theorem Block.postRing_keys (b : Block) (r : RecId) : (b.postRing r).keys = b.keys := rfl
@[simp] theorem Block.postRing_account (b : Block) (r : RecId) : (b.postRing r).account = b.account := rfl
@[simp] theorem Block.postRing_purchases (b : Block) (r : RecId) : (b.postRing r).purchases = b.purchases := rfl
@[simp] theorem Block.postRing_guide (b : Block) (r : RecId) : (b.postRing r).guide = b.guide := rfl
@[simp] theorem Block.postRing_profiles (b : Block) (r : RecId) : (b.postRing r).profiles = b.profiles := rfl
@[simp] theorem Block.postRing_ringWriter (b : Block) (r : RecId) : (b.postRing r).ringWriter = b.ringWriter := rfl
@[simp] theorem Block.postRing_ports (b : Block) (r : RecId) : (b.postRing r).ports = b.ports := rfl

@[simp] theorem Block.postFault_pool (b : Block) (o : OutId) (l : Option FaultClass) : (b.postFault o l).pool = b.pool := rfl
@[simp] theorem Block.postFault_filter (b : Block) (o : OutId) (l : Option FaultClass) : (b.postFault o l).filter = b.filter := rfl
@[simp] theorem Block.postFault_engines (b : Block) (o : OutId) (l : Option FaultClass) : (b.postFault o l).engines = b.engines := rfl
@[simp] theorem Block.postFault_keys (b : Block) (o : OutId) (l : Option FaultClass) : (b.postFault o l).keys = b.keys := rfl
@[simp] theorem Block.postFault_account (b : Block) (o : OutId) (l : Option FaultClass) : (b.postFault o l).account = b.account := rfl
@[simp] theorem Block.postFault_purchases (b : Block) (o : OutId) (l : Option FaultClass) : (b.postFault o l).purchases = b.purchases := rfl
@[simp] theorem Block.postFault_guide (b : Block) (o : OutId) (l : Option FaultClass) : (b.postFault o l).guide = b.guide := rfl
@[simp] theorem Block.postFault_profiles (b : Block) (o : OutId) (l : Option FaultClass) : (b.postFault o l).profiles = b.profiles := rfl
@[simp] theorem Block.postFault_ringWriter (b : Block) (o : OutId) (l : Option FaultClass) : (b.postFault o l).ringWriter = b.ringWriter := rfl
@[simp] theorem Block.postFault_ports (b : Block) (o : OutId) (l : Option FaultClass) : (b.postFault o l).ports = b.ports := rfl

@[simp] theorem Block.postGuide_pool (b : Block) : b.postGuide.pool = b.pool := rfl
@[simp] theorem Block.postGuide_filter (b : Block) : b.postGuide.filter = b.filter := rfl
@[simp] theorem Block.postGuide_engines (b : Block) : b.postGuide.engines = b.engines := rfl
@[simp] theorem Block.postGuide_keys (b : Block) : b.postGuide.keys = b.keys := rfl
@[simp] theorem Block.postGuide_account (b : Block) : b.postGuide.account = b.account := rfl
@[simp] theorem Block.postGuide_purchases (b : Block) : b.postGuide.purchases = b.purchases := rfl
@[simp] theorem Block.postGuide_guide (b : Block) : b.postGuide.guide = b.guide := rfl
@[simp] theorem Block.postGuide_profiles (b : Block) : b.postGuide.profiles = b.profiles := rfl
@[simp] theorem Block.postGuide_ringWriter (b : Block) : b.postGuide.ringWriter = b.ringWriter := rfl
@[simp] theorem Block.postGuide_ports (b : Block) : b.postGuide.ports = b.ports := rfl

@[simp] theorem Block.postTime_pool (b : Block) : b.postTime.pool = b.pool := rfl
@[simp] theorem Block.postTime_filter (b : Block) : b.postTime.filter = b.filter := rfl
@[simp] theorem Block.postTime_engines (b : Block) : b.postTime.engines = b.engines := rfl
@[simp] theorem Block.postTime_keys (b : Block) : b.postTime.keys = b.keys := rfl
@[simp] theorem Block.postTime_account (b : Block) : b.postTime.account = b.account := rfl
@[simp] theorem Block.postTime_purchases (b : Block) : b.postTime.purchases = b.purchases := rfl
@[simp] theorem Block.postTime_guide (b : Block) : b.postTime.guide = b.guide := rfl
@[simp] theorem Block.postTime_profiles (b : Block) : b.postTime.profiles = b.profiles := rfl
@[simp] theorem Block.postTime_ringWriter (b : Block) : b.postTime.ringWriter = b.ringWriter := rfl
@[simp] theorem Block.postTime_ports (b : Block) : b.postTime.ports = b.ports := rfl

@[simp] theorem Block.postAccount_pool (b : Block) (c : AccountCause) : (b.postAccount c).pool = b.pool := rfl
@[simp] theorem Block.postAccount_filter (b : Block) (c : AccountCause) : (b.postAccount c).filter = b.filter := rfl
@[simp] theorem Block.postAccount_engines (b : Block) (c : AccountCause) : (b.postAccount c).engines = b.engines := rfl
@[simp] theorem Block.postAccount_keys (b : Block) (c : AccountCause) : (b.postAccount c).keys = b.keys := rfl
@[simp] theorem Block.postAccount_account (b : Block) (c : AccountCause) : (b.postAccount c).account = b.account := rfl
@[simp] theorem Block.postAccount_purchases (b : Block) (c : AccountCause) : (b.postAccount c).purchases = b.purchases := rfl
@[simp] theorem Block.postAccount_guide (b : Block) (c : AccountCause) : (b.postAccount c).guide = b.guide := rfl
@[simp] theorem Block.postAccount_profiles (b : Block) (c : AccountCause) : (b.postAccount c).profiles = b.profiles := rfl
@[simp] theorem Block.postAccount_ringWriter (b : Block) (c : AccountCause) : (b.postAccount c).ringWriter = b.ringWriter := rfl
@[simp] theorem Block.postAccount_ports (b : Block) (c : AccountCause) : (b.postAccount c).ports = b.ports := rfl

@[simp] theorem Block.postPurchase_pool (b : Block) (c : PurchaseCause) (p : Option Purchase) : (b.postPurchase c p).pool = b.pool := rfl
@[simp] theorem Block.postPurchase_filter (b : Block) (c : PurchaseCause) (p : Option Purchase) : (b.postPurchase c p).filter = b.filter := rfl
@[simp] theorem Block.postPurchase_engines (b : Block) (c : PurchaseCause) (p : Option Purchase) : (b.postPurchase c p).engines = b.engines := rfl
@[simp] theorem Block.postPurchase_keys (b : Block) (c : PurchaseCause) (p : Option Purchase) : (b.postPurchase c p).keys = b.keys := rfl
@[simp] theorem Block.postPurchase_account (b : Block) (c : PurchaseCause) (p : Option Purchase) : (b.postPurchase c p).account = b.account := rfl
@[simp] theorem Block.postPurchase_purchases (b : Block) (c : PurchaseCause) (p : Option Purchase) : (b.postPurchase c p).purchases = b.purchases := rfl
@[simp] theorem Block.postPurchase_guide (b : Block) (c : PurchaseCause) (p : Option Purchase) : (b.postPurchase c p).guide = b.guide := rfl
@[simp] theorem Block.postPurchase_profiles (b : Block) (c : PurchaseCause) (p : Option Purchase) : (b.postPurchase c p).profiles = b.profiles := rfl
@[simp] theorem Block.postPurchase_ringWriter (b : Block) (c : PurchaseCause) (p : Option Purchase) : (b.postPurchase c p).ringWriter = b.ringWriter := rfl
@[simp] theorem Block.postPurchase_ports (b : Block) (c : PurchaseCause) (p : Option Purchase) : (b.postPurchase c p).ports = b.ports := rfl

@[simp] theorem Block.dropCopy_tables (b : Block) (l : Lane) : (b.dropCopy l).filter.tables = b.filter.tables := rfl
@[simp] theorem Block.dropCopy_link (b : Block) (l : Lane) : (b.dropCopy l).link = b.link := rfl
@[simp] theorem Block.dropCopy_pool (b : Block) (l : Lane) : (b.dropCopy l).pool = b.pool := rfl
@[simp] theorem Block.dropCopy_engines (b : Block) (l : Lane) : (b.dropCopy l).engines = b.engines := rfl
@[simp] theorem Block.dropCopy_keys (b : Block) (l : Lane) : (b.dropCopy l).keys = b.keys := rfl
@[simp] theorem Block.dropCopy_account (b : Block) (l : Lane) : (b.dropCopy l).account = b.account := rfl
@[simp] theorem Block.dropCopy_purchases (b : Block) (l : Lane) : (b.dropCopy l).purchases = b.purchases := rfl
@[simp] theorem Block.dropCopy_guide (b : Block) (l : Lane) : (b.dropCopy l).guide = b.guide := rfl
@[simp] theorem Block.dropCopy_profiles (b : Block) (l : Lane) : (b.dropCopy l).profiles = b.profiles := rfl
@[simp] theorem Block.dropCopy_ringWriter (b : Block) (l : Lane) : (b.dropCopy l).ringWriter = b.ringWriter := rfl
@[simp] theorem Block.dropCopy_ports (b : Block) (l : Lane) : (b.dropCopy l).ports = b.ports := rfl
@[simp] theorem Block.noteRaised_tables (b : Block) (i : TunerId) (x : CtxId) : (b.noteRaised i x).filter.tables = b.filter.tables := rfl
@[simp] theorem Block.noteRaised_link (b : Block) (i : TunerId) (x : CtxId) : (b.noteRaised i x).link = b.link := rfl
@[simp] theorem Block.noteRaised_pool (b : Block) (i : TunerId) (x : CtxId) : (b.noteRaised i x).pool = b.pool := rfl
@[simp] theorem Block.noteRaised_engines (b : Block) (i : TunerId) (x : CtxId) : (b.noteRaised i x).engines = b.engines := rfl
@[simp] theorem Block.noteRaised_keys (b : Block) (i : TunerId) (x : CtxId) : (b.noteRaised i x).keys = b.keys := rfl
@[simp] theorem Block.noteRaised_account (b : Block) (i : TunerId) (x : CtxId) : (b.noteRaised i x).account = b.account := rfl
@[simp] theorem Block.noteRaised_purchases (b : Block) (i : TunerId) (x : CtxId) : (b.noteRaised i x).purchases = b.purchases := rfl
@[simp] theorem Block.noteRaised_guide (b : Block) (i : TunerId) (x : CtxId) : (b.noteRaised i x).guide = b.guide := rfl
@[simp] theorem Block.noteRaised_profiles (b : Block) (i : TunerId) (x : CtxId) : (b.noteRaised i x).profiles = b.profiles := rfl
@[simp] theorem Block.noteRaised_ringWriter (b : Block) (i : TunerId) (x : CtxId) : (b.noteRaised i x).ringWriter = b.ringWriter := rfl
@[simp] theorem Block.noteRaised_ports (b : Block) (i : TunerId) (x : CtxId) : (b.noteRaised i x).ports = b.ports := rfl

@[simp] theorem Block.sendOrder_link (b : Block) (t : TunerId) (x : Order) : (b.sendOrder t x).link = b.link := rfl
@[simp] theorem Block.sendOrder_pool (b : Block) (t : TunerId) (x : Order) : (b.sendOrder t x).pool = b.pool := rfl
@[simp] theorem Block.sendOrder_filter (b : Block) (t : TunerId) (x : Order) : (b.sendOrder t x).filter = b.filter := rfl
@[simp] theorem Block.sendOrder_engines (b : Block) (t : TunerId) (x : Order) : (b.sendOrder t x).engines = b.engines := rfl
@[simp] theorem Block.sendOrder_keys (b : Block) (t : TunerId) (x : Order) : (b.sendOrder t x).keys = b.keys := rfl
@[simp] theorem Block.sendOrder_account (b : Block) (t : TunerId) (x : Order) : (b.sendOrder t x).account = b.account := rfl
@[simp] theorem Block.sendOrder_purchases (b : Block) (t : TunerId) (x : Order) : (b.sendOrder t x).purchases = b.purchases := rfl
@[simp] theorem Block.sendOrder_guide (b : Block) (t : TunerId) (x : Order) : (b.sendOrder t x).guide = b.guide := rfl
@[simp] theorem Block.sendOrder_profiles (b : Block) (t : TunerId) (x : Order) : (b.sendOrder t x).profiles = b.profiles := rfl
@[simp] theorem Block.sendOrder_ringWriter (b : Block) (t : TunerId) (x : Order) : (b.sendOrder t x).ringWriter = b.ringWriter := rfl

@[simp] theorem Block.sendRecord_link (b : Block) (r : RecId) (x : RecordItem) : (b.sendRecord r x).link = b.link := rfl
@[simp] theorem Block.sendRecord_pool (b : Block) (r : RecId) (x : RecordItem) : (b.sendRecord r x).pool = b.pool := rfl
@[simp] theorem Block.sendRecord_filter (b : Block) (r : RecId) (x : RecordItem) : (b.sendRecord r x).filter = b.filter := rfl
@[simp] theorem Block.sendRecord_engines (b : Block) (r : RecId) (x : RecordItem) : (b.sendRecord r x).engines = b.engines := rfl
@[simp] theorem Block.sendRecord_keys (b : Block) (r : RecId) (x : RecordItem) : (b.sendRecord r x).keys = b.keys := rfl
@[simp] theorem Block.sendRecord_account (b : Block) (r : RecId) (x : RecordItem) : (b.sendRecord r x).account = b.account := rfl
@[simp] theorem Block.sendRecord_purchases (b : Block) (r : RecId) (x : RecordItem) : (b.sendRecord r x).purchases = b.purchases := rfl
@[simp] theorem Block.sendRecord_guide (b : Block) (r : RecId) (x : RecordItem) : (b.sendRecord r x).guide = b.guide := rfl
@[simp] theorem Block.sendRecord_profiles (b : Block) (r : RecId) (x : RecordItem) : (b.sendRecord r x).profiles = b.profiles := rfl
@[simp] theorem Block.sendRecord_ringWriter (b : Block) (r : RecId) (x : RecordItem) : (b.sendRecord r x).ringWriter = b.ringWriter := rfl

@[simp] theorem Block.setFault_link (b : Block) (o : OutId) (f : FaultBlock) : (b.setFault o f).link = b.link := rfl
@[simp] theorem Block.setFault_pool (b : Block) (o : OutId) (f : FaultBlock) : (b.setFault o f).pool = b.pool := rfl
@[simp] theorem Block.setFault_filter (b : Block) (o : OutId) (f : FaultBlock) : (b.setFault o f).filter = b.filter := rfl
@[simp] theorem Block.setFault_keys (b : Block) (o : OutId) (f : FaultBlock) : (b.setFault o f).keys = b.keys := rfl
@[simp] theorem Block.setFault_account (b : Block) (o : OutId) (f : FaultBlock) : (b.setFault o f).account = b.account := rfl
@[simp] theorem Block.setFault_purchases (b : Block) (o : OutId) (f : FaultBlock) : (b.setFault o f).purchases = b.purchases := rfl
@[simp] theorem Block.setFault_guide (b : Block) (o : OutId) (f : FaultBlock) : (b.setFault o f).guide = b.guide := rfl
@[simp] theorem Block.setFault_profiles (b : Block) (o : OutId) (f : FaultBlock) : (b.setFault o f).profiles = b.profiles := rfl
@[simp] theorem Block.setFault_ringWriter (b : Block) (o : OutId) (f : FaultBlock) : (b.setFault o f).ringWriter = b.ringWriter := rfl
@[simp] theorem Block.setFault_ports (b : Block) (o : OutId) (f : FaultBlock) : (b.setFault o f).ports = b.ports := rfl

@[simp] theorem Block.leaveSlot_link (b : Block) (c : CtxId) (r : Option SlotRef) : (b.leaveSlot c r).link = b.link := rfl
@[simp] theorem Block.leaveSlot_pool (b : Block) (c : CtxId) (r : Option SlotRef) : (b.leaveSlot c r).pool = b.pool := rfl
@[simp] theorem Block.leaveSlot_filter (b : Block) (c : CtxId) (r : Option SlotRef) : (b.leaveSlot c r).filter = b.filter := rfl
@[simp] theorem Block.leaveSlot_engines (b : Block) (c : CtxId) (r : Option SlotRef) : (b.leaveSlot c r).engines = b.engines := rfl
@[simp] theorem Block.leaveSlot_account (b : Block) (c : CtxId) (r : Option SlotRef) : (b.leaveSlot c r).account = b.account := rfl
@[simp] theorem Block.leaveSlot_purchases (b : Block) (c : CtxId) (r : Option SlotRef) : (b.leaveSlot c r).purchases = b.purchases := rfl
@[simp] theorem Block.leaveSlot_guide (b : Block) (c : CtxId) (r : Option SlotRef) : (b.leaveSlot c r).guide = b.guide := rfl
@[simp] theorem Block.leaveSlot_profiles (b : Block) (c : CtxId) (r : Option SlotRef) : (b.leaveSlot c r).profiles = b.profiles := rfl
@[simp] theorem Block.leaveSlot_ringWriter (b : Block) (c : CtxId) (r : Option SlotRef) : (b.leaveSlot c r).ringWriter = b.ringWriter := rfl
@[simp] theorem Block.leaveSlot_ports (b : Block) (c : CtxId) (r : Option SlotRef) : (b.leaveSlot c r).ports = b.ports := rfl

@[simp] theorem Block.list_link (b : Block) (i : TunerId) (c : CtxId) (l : Listing) : (b.list i c l).link = b.link := rfl
@[simp] theorem Block.list_pool (b : Block) (i : TunerId) (c : CtxId) (l : Listing) : (b.list i c l).pool = b.pool := rfl
@[simp] theorem Block.list_engines (b : Block) (i : TunerId) (c : CtxId) (l : Listing) : (b.list i c l).engines = b.engines := rfl
@[simp] theorem Block.list_keys (b : Block) (i : TunerId) (c : CtxId) (l : Listing) : (b.list i c l).keys = b.keys := rfl
@[simp] theorem Block.list_account (b : Block) (i : TunerId) (c : CtxId) (l : Listing) : (b.list i c l).account = b.account := rfl
@[simp] theorem Block.list_purchases (b : Block) (i : TunerId) (c : CtxId) (l : Listing) : (b.list i c l).purchases = b.purchases := rfl
@[simp] theorem Block.list_guide (b : Block) (i : TunerId) (c : CtxId) (l : Listing) : (b.list i c l).guide = b.guide := rfl
@[simp] theorem Block.list_profiles (b : Block) (i : TunerId) (c : CtxId) (l : Listing) : (b.list i c l).profiles = b.profiles := rfl
@[simp] theorem Block.list_ringWriter (b : Block) (i : TunerId) (c : CtxId) (l : Listing) : (b.list i c l).ringWriter = b.ringWriter := rfl
@[simp] theorem Block.list_ports (b : Block) (i : TunerId) (c : CtxId) (l : Listing) : (b.list i c l).ports = b.ports := rfl

@[simp] theorem Block.unlist_link (b : Block) (i : TunerId) (c : CtxId) : (b.unlist i c).link = b.link := rfl
@[simp] theorem Block.unlist_pool (b : Block) (i : TunerId) (c : CtxId) : (b.unlist i c).pool = b.pool := rfl
@[simp] theorem Block.unlist_engines (b : Block) (i : TunerId) (c : CtxId) : (b.unlist i c).engines = b.engines := rfl
@[simp] theorem Block.unlist_keys (b : Block) (i : TunerId) (c : CtxId) : (b.unlist i c).keys = b.keys := rfl
@[simp] theorem Block.unlist_account (b : Block) (i : TunerId) (c : CtxId) : (b.unlist i c).account = b.account := rfl
@[simp] theorem Block.unlist_purchases (b : Block) (i : TunerId) (c : CtxId) : (b.unlist i c).purchases = b.purchases := rfl
@[simp] theorem Block.unlist_guide (b : Block) (i : TunerId) (c : CtxId) : (b.unlist i c).guide = b.guide := rfl
@[simp] theorem Block.unlist_profiles (b : Block) (i : TunerId) (c : CtxId) : (b.unlist i c).profiles = b.profiles := rfl
@[simp] theorem Block.unlist_ringWriter (b : Block) (i : TunerId) (c : CtxId) : (b.unlist i c).ringWriter = b.ringWriter := rfl
@[simp] theorem Block.unlist_ports (b : Block) (i : TunerId) (c : CtxId) : (b.unlist i c).ports = b.ports := rfl

@[simp] theorem Block.relist_link (b : Block) (i : TunerId) (c : CtxId) (l : Listing) : (b.relist i c l).link = b.link := rfl
@[simp] theorem Block.relist_pool (b : Block) (i : TunerId) (c : CtxId) (l : Listing) : (b.relist i c l).pool = b.pool := rfl
@[simp] theorem Block.relist_engines (b : Block) (i : TunerId) (c : CtxId) (l : Listing) : (b.relist i c l).engines = b.engines := rfl
@[simp] theorem Block.relist_keys (b : Block) (i : TunerId) (c : CtxId) (l : Listing) : (b.relist i c l).keys = b.keys := rfl
@[simp] theorem Block.relist_account (b : Block) (i : TunerId) (c : CtxId) (l : Listing) : (b.relist i c l).account = b.account := rfl
@[simp] theorem Block.relist_purchases (b : Block) (i : TunerId) (c : CtxId) (l : Listing) : (b.relist i c l).purchases = b.purchases := rfl
@[simp] theorem Block.relist_guide (b : Block) (i : TunerId) (c : CtxId) (l : Listing) : (b.relist i c l).guide = b.guide := rfl
@[simp] theorem Block.relist_profiles (b : Block) (i : TunerId) (c : CtxId) (l : Listing) : (b.relist i c l).profiles = b.profiles := rfl
@[simp] theorem Block.relist_ringWriter (b : Block) (i : TunerId) (c : CtxId) (l : Listing) : (b.relist i c l).ringWriter = b.ringWriter := rfl
@[simp] theorem Block.relist_ports (b : Block) (i : TunerId) (c : CtxId) (l : Listing) : (b.relist i c l).ports = b.ports := rfl

@[simp] theorem Block.swapListings_link (b : Block) (x y : CtxId) : (b.swapListings x y).link = b.link := rfl
@[simp] theorem Block.swapListings_pool (b : Block) (x y : CtxId) : (b.swapListings x y).pool = b.pool := rfl
@[simp] theorem Block.swapListings_engines (b : Block) (x y : CtxId) : (b.swapListings x y).engines = b.engines := rfl
@[simp] theorem Block.swapListings_keys (b : Block) (x y : CtxId) : (b.swapListings x y).keys = b.keys := rfl
@[simp] theorem Block.swapListings_account (b : Block) (x y : CtxId) : (b.swapListings x y).account = b.account := rfl
@[simp] theorem Block.swapListings_purchases (b : Block) (x y : CtxId) : (b.swapListings x y).purchases = b.purchases := rfl
@[simp] theorem Block.swapListings_guide (b : Block) (x y : CtxId) : (b.swapListings x y).guide = b.guide := rfl
@[simp] theorem Block.swapListings_profiles (b : Block) (x y : CtxId) : (b.swapListings x y).profiles = b.profiles := rfl
@[simp] theorem Block.swapListings_ringWriter (b : Block) (x y : CtxId) : (b.swapListings x y).ringWriter = b.ringWriter := rfl
@[simp] theorem Block.swapListings_ports (b : Block) (x y : CtxId) : (b.swapListings x y).ports = b.ports := rfl

@[simp] theorem Block.leaveLocked_link (b : Block) (t : TunerId) : (b.leaveLocked t).link = b.link := rfl
@[simp] theorem Block.leaveLocked_pool (b : Block) (t : TunerId) : (b.leaveLocked t).pool = b.pool := rfl
@[simp] theorem Block.leaveLocked_engines (b : Block) (t : TunerId) : (b.leaveLocked t).engines = b.engines := rfl
@[simp] theorem Block.leaveLocked_keys (b : Block) (t : TunerId) : (b.leaveLocked t).keys = b.keys := rfl
@[simp] theorem Block.leaveLocked_account (b : Block) (t : TunerId) : (b.leaveLocked t).account = b.account := rfl
@[simp] theorem Block.leaveLocked_purchases (b : Block) (t : TunerId) : (b.leaveLocked t).purchases = b.purchases := rfl
@[simp] theorem Block.leaveLocked_guide (b : Block) (t : TunerId) : (b.leaveLocked t).guide = b.guide := rfl
@[simp] theorem Block.leaveLocked_profiles (b : Block) (t : TunerId) : (b.leaveLocked t).profiles = b.profiles := rfl
@[simp] theorem Block.leaveLocked_ringWriter (b : Block) (t : TunerId) : (b.leaveLocked t).ringWriter = b.ringWriter := rfl
@[simp] theorem Block.leaveLocked_ports (b : Block) (t : TunerId) : (b.leaveLocked t).ports = b.ports := rfl

/-! ## What the updates of the block write -/

@[simp] theorem Block.setTuner_tuner (b : Block) (t : TunerId) (x : Tuner) : (b.setTuner t x).tuner t = x := vset_get_same _ _ _
@[simp] theorem Block.setTable_table (b : Block) (i : TunerId) (x : List LabelEntry) : (b.setTable i x).table i = x := vset_get_same _ _ _
@[simp] theorem Block.setOut_out (b : Block) (o : OutId) (x : Output) : (b.setOut o x).out o = x := vset_get_same _ _ _
@[simp] theorem Block.setWarm_warm (b : Block) (p : PresId) (x : Warm) : (b.setWarm p x).warm p = x := vset_get_same _ _ _
@[simp] theorem Block.setRecalls_recalls (b : Block) (p : PresId) (x : List RecallRecord) : (b.setRecalls p x).recalls p = x :=
  vset_get_same _ _ _
@[simp] theorem Block.setProfile_profile (b : Block) (p : ProfileId) (x : Profile) : (b.setProfile p x).profile p = x := vset_get_same _ _ _
@[simp] theorem Block.setRing_ring (b : Block) (r : RecId) (x : Ring) : (b.setRing r x).ring r = x := vset_get_same _ _ _

theorem Block.setTuner_tuner_other (b : Block) {t u : TunerId} (x : Tuner) (h : u ≠ t) : (b.setTuner t x).tuner u = b.tuner u :=
  vset_get_other _ _ h
theorem Block.setTable_table_other (b : Block) {i j : TunerId} (x : List LabelEntry) (h : j ≠ i) : (b.setTable i x).table j = b.table j :=
  vset_get_other _ _ h
theorem Block.setOut_out_other (b : Block) {o q : OutId} (x : Output) (h : q ≠ o) : (b.setOut o x).out q = b.out q := vset_get_other _ _ h
theorem Block.setWarm_warm_other (b : Block) {p q : PresId} (x : Warm) (h : q ≠ p) : (b.setWarm p x).warm q = b.warm q :=
  vset_get_other _ _ h
theorem Block.setProfile_profile_other (b : Block) {p q : ProfileId} (x : Profile) (h : q ≠ p) :
    (b.setProfile p x).profile q = b.profile q := vset_get_other _ _ h
theorem Block.setRing_ring_other (b : Block) {r q : RecId} (x : Ring) (h : q ≠ r) : (b.setRing r x).ring q = b.ring q := vset_get_other _ _ h

@[simp] theorem Block.setOut_engines_bound (b : Block) (o : OutId) (x : Output) : (b.setOut o x).engines.bound = b.engines.bound := rfl
@[simp] theorem Block.setOut_engines_warms (b : Block) (o : OutId) (x : Output) : (b.setOut o x).engines.warms = b.engines.warms := rfl
@[simp] theorem Block.setOut_engines_recalls (b : Block) (o : OutId) (x : Output) : (b.setOut o x).engines.recalls = b.engines.recalls := rfl
@[simp] theorem Block.setOut_engines_deepThreshold (b : Block) (o : OutId) (x : Output) : (b.setOut o x).engines.deepThreshold = b.engines.deepThreshold := rfl
@[simp] theorem Block.setOut_engines_deepen (b : Block) (o : OutId) (x : Output) : (b.setOut o x).engines.deepen = b.engines.deepen := rfl
@[simp] theorem Block.setWarm_engines_outputs (b : Block) (p : PresId) (x : Warm) : (b.setWarm p x).engines.outputs = b.engines.outputs := rfl
@[simp] theorem Block.setWarm_engines_bound (b : Block) (p : PresId) (x : Warm) : (b.setWarm p x).engines.bound = b.engines.bound := rfl
@[simp] theorem Block.setWarm_engines_recalls (b : Block) (p : PresId) (x : Warm) : (b.setWarm p x).engines.recalls = b.engines.recalls := rfl
@[simp] theorem Block.setWarm_engines_deepThreshold (b : Block) (p : PresId) (x : Warm) : (b.setWarm p x).engines.deepThreshold = b.engines.deepThreshold := rfl
@[simp] theorem Block.setWarm_engines_deepen (b : Block) (p : PresId) (x : Warm) : (b.setWarm p x).engines.deepen = b.engines.deepen := rfl
@[simp] theorem Block.setRecalls_engines_outputs (b : Block) (p : PresId) (x : List RecallRecord) : (b.setRecalls p x).engines.outputs = b.engines.outputs := rfl
@[simp] theorem Block.setRecalls_engines_bound (b : Block) (p : PresId) (x : List RecallRecord) : (b.setRecalls p x).engines.bound = b.engines.bound := rfl
@[simp] theorem Block.setRecalls_engines_warms (b : Block) (p : PresId) (x : List RecallRecord) : (b.setRecalls p x).engines.warms = b.engines.warms := rfl
@[simp] theorem Block.setRecalls_engines_deepThreshold (b : Block) (p : PresId) (x : List RecallRecord) : (b.setRecalls p x).engines.deepThreshold = b.engines.deepThreshold := rfl
@[simp] theorem Block.setRecalls_engines_deepen (b : Block) (p : PresId) (x : List RecallRecord) : (b.setRecalls p x).engines.deepen = b.engines.deepen := rfl
@[simp] theorem Block.reply_link_device (b : Block) (tag : Byte) (body : ReplyBody) : (b.reply tag body).link.device = b.link.device := rfl
@[simp] theorem Block.reply_link_clocking (b : Block) (tag : Byte) (body : ReplyBody) : (b.reply tag body).link.clocking = b.link.clocking := rfl
@[simp] theorem Block.reply_link_notices (b : Block) (tag : Byte) (body : ReplyBody) : (b.reply tag body).link.notices = b.link.notices := rfl
@[simp] theorem Block.reply_link_home (b : Block) (tag : Byte) (body : ReplyBody) : (b.reply tag body).link.home = b.link.home := rfl
@[simp] theorem Block.reply_link_revision (b : Block) (tag : Byte) (body : ReplyBody) : (b.reply tag body).link.revision = b.link.revision := rfl
@[simp] theorem Block.post_link_device (b : Block) (k : NoticeKey) (n : NoticeBody) : (b.post k n).link.device = b.link.device := rfl
@[simp] theorem Block.post_link_slot (b : Block) (k : NoticeKey) (n : NoticeBody) : (b.post k n).link.slot = b.link.slot := rfl
@[simp] theorem Block.post_link_clocking (b : Block) (k : NoticeKey) (n : NoticeBody) : (b.post k n).link.clocking = b.link.clocking := rfl
@[simp] theorem Block.post_link_clockingSlot (b : Block) (k : NoticeKey) (n : NoticeBody) : (b.post k n).link.clockingSlot = b.link.clockingSlot := rfl
@[simp] theorem Block.post_link_periodSpent (b : Block) (k : NoticeKey) (n : NoticeBody) : (b.post k n).link.periodSpent = b.link.periodSpent := rfl
@[simp] theorem Block.post_link_home (b : Block) (k : NoticeKey) (n : NoticeBody) : (b.post k n).link.home = b.link.home := rfl
@[simp] theorem Block.post_link_revision (b : Block) (k : NoticeKey) (n : NoticeBody) : (b.post k n).link.revision = b.link.revision := rfl

@[simp] theorem Block.reply_link_slot (b : Block) (tag : Byte) (body : ReplyBody) :
    (b.reply tag body).link.slot = some { tag := tag, body := body } := rfl
@[simp] theorem Block.post_link_notices (b : Block) (k : NoticeKey) (n : NoticeBody) :
    (b.post k n).link.notices = postTo b.link.notices { key := k, body := n } := rfl

@[simp] theorem Block.reply_link_clockingSlot (b : Block) (tag : Byte) (body : ReplyBody) : (b.reply tag body).link.clockingSlot = false := rfl
@[simp] theorem Block.reply_link_periodSpent (b : Block) (tag : Byte) (body : ReplyBody) : (b.reply tag body).link.periodSpent = true := rfl

/-! ## Outcomes -/

/-- What the link carries is taken in a period that has carried nothing yet. -/
theorem Block.hear_first {b : Block} (take : Block → Block) (first : b.link.periodSpent = false) : b.hear take = take b := by
  simp [Block.hear, first]

/-- What the link carries after the one request or bad frame of the period is ignored. -/
theorem Block.hear_again {b : Block} (take : Block → Block) (spent : b.link.periodSpent = true) : b.hear take = b := by
  simp [Block.hear, spent]

/-- A request answered, the first of its select period. -/
theorem answer_next (h : Head) (run : Block → Block × ReplyBody) (s : State) (good : h.bodyFits = true) (first : s.link.periodSpent = false) :
    answer h run s = .next { s with toBlock := (run s.toBlock).1.reply h.tag (run s.toBlock).2 } := by
  simp [answer, happen, Block.hear_first, good, first]

/-- A body of the wrong length, in the first request of its select period. -/
theorem answer_bad (h : Head) (run : Block → Block × ReplyBody) (s : State) (bad : h.bodyFits = false) (first : s.link.periodSpent = false) :
    answer h run s = .next { s with toBlock := s.toBlock.reply h.tag (.refused .badArgument) } := by
  simp [answer, happen, Block.hear_first, bad, first]

/-- A request that its select period no longer carries. -/
theorem answer_spent (h : Head) (run : Block → Block × ReplyBody) (s : State) (spent : s.link.periodSpent = true) :
    answer h run s = .next s := by
  simp [answer, happen, Block.hear_again, spent]

/-- A request answers a next state, whatever it finds: an ignored one the state as it was, any other one with a reply placed. -/
theorem answer_goes (h : Head) (run : Block → Block × ReplyBody) (s : State) :
    (s.link.periodSpent = true ∧ answer h run s = .next s) ∨
    (s.link.periodSpent = false ∧ ∃ b body, answer h run s = .next { s with toBlock := Block.reply b h.tag body }) := by
  cases p : s.link.periodSpent
  · cases g : h.bodyFits
    · exact .inr ⟨rfl, _, _, answer_bad h run s g p⟩
    · exact .inr ⟨rfl, _, _, answer_next h run s g p⟩
  · exact .inl ⟨rfl, answer_spent h run s p⟩

end Sys2Proof.Machine
end

