-- ==== Sys2Proof/Laws/Ops.lean ====
section
/-! SUPPORT. What the shared operations can do: an answer places exactly one reply and never stops, an event never stops, a posting
keeps at most one notice of each kind and subject, and a copy is taken only when it is the next one on its lane. -/

namespace Sys2Proof.Machine

/-- What a request does: nothing after the one request or bad frame of its select period; else it is answered by exactly one reply, the block's
own change first, or BAD ARGUMENT for a body of the wrong length. -/
theorem answer_cases (h : Head) (run : Block → Block × ReplyBody) (s : State) :
    (s.link.periodSpent = true ∧ answer h run s = .next s) ∨
    (s.link.periodSpent = false ∧ h.bodyFits = true ∧
      answer h run s = .next { s with toBlock := (run s.toBlock).1.reply h.tag (run s.toBlock).2 }) ∨
    (s.link.periodSpent = false ∧ h.bodyFits = false ∧
      answer h run s = .next { s with toBlock := s.toBlock.reply h.tag (.refused .badArgument) }) := by
  cases p : s.link.periodSpent
  · cases g : h.bodyFits
    · exact .inr (.inr ⟨rfl, rfl, answer_bad h run s g p⟩)
    · exact .inr (.inl ⟨rfl, rfl, answer_next h run s g p⟩)
  · exact .inl ⟨rfl, answer_spent h run s p⟩

/-- The reply to a request that its period carries stands in the reply slot with the request's tag, the period carries nothing more, and the queue of
commands is as it was. -/
theorem answer_slot {h : Head} {run : Block → Block × ReplyBody} {s t : State} (first : s.link.periodSpent = false)
    (k : answer h run s = .next t) :
    t.pending = s.pending ∧ t.link.periodSpent = true ∧ ∃ body, t.link.slot = some { tag := h.tag, body := body } := by
  obtain ⟨spent, -⟩ | ⟨-, -, e⟩ | ⟨-, -, e⟩ := answer_cases h run s
  · rw [first] at spent; cases spent
  all_goals rw [e] at k; cases k; exact ⟨rfl, rfl, _, rfl⟩

/-- A query changes nothing but what its reply does at the link. -/
theorem answerQuery_frame {h : Head} {read : Block → ReplyBody} {s t : State} (k : answerQuery h read s = .next t) :
    t = s ∨ ∃ body, t = { s with toBlock := s.toBlock.reply h.tag body } := by
  obtain ⟨-, e⟩ | ⟨-, -, e⟩ | ⟨-, -, e⟩ := answer_cases h (fun b => (b, read b)) s <;> rw [answerQuery, e] at k <;> cases k
  · exact .inl rfl
  all_goals exact .inr ⟨_, rfl⟩

theorem happen_next (act : Block → Block) (s : State) : happen act s = .next { s with toBlock := act s.toBlock } := rfl

/-- A copy is taken, and acted on, exactly when the next copy on its lane is the one that is named; else nothing happens. -/
theorem Block.takeCopy_cases (b : Block) (l : Lane) (named : Copy → Bool) (act : Copy → Block → Block) :
    (∃ x, b.filter.next l = some x ∧ named x = true ∧ b.takeCopy l named act = act x (b.dropCopy l)) ∨
    ((∀ x, b.filter.next l = some x → named x = false) ∧ b.takeCopy l named act = b) := by
  unfold Block.takeCopy
  generalize b.filter.next l = waiting
  cases waiting with
  | none => exact .inr ⟨(fun _ absent => by cases absent), rfl⟩
  | some x =>
    cases k : named x with
    | true => exact .inl ⟨x, rfl, k, if_pos k⟩
    | false => exact .inr ⟨(fun _ same => by cases same; exact k), if_neg (by rw [k]; exact Bool.false_ne_true)⟩

/-- The next copy on a lane is one of that lane that waits. -/
theorem CellFilter.next_some {f : CellFilter} {l : Lane} {x : Copy} (h : f.next l = some x) : x.lane = l ∧ x ∈ f.copies :=
  ⟨by simpa using List.find?_some h, List.mem_of_find?_eq_some h⟩

/-- Copies that arrive later never overtake: a lane that has a next copy keeps it. -/
theorem CellFilter.next_append {f : CellFilter} {l : Lane} {x : Copy} (new : List Copy) (h : f.next l = some x) :
    ({ f with copies := f.copies ++ new } : CellFilter).next l = some x := by
  simp only [CellFilter.next] at h ⊢
  simp [List.find?_append, h]

/-- A posting leaves the keys of a queue as they were, or puts the notice's own at the end. -/
theorem postTo_keys (q : List Notice) (n : Notice) :
    (postTo q n).map Notice.key = q.map Notice.key ∨
    (n.key ∉ q.map Notice.key ∧ (postTo q n).map Notice.key = q.map Notice.key ++ [n.key]) := by
  cases pending : q.any (fun m => decide (m.key = n.key)) with
  | true =>
    refine .inl ?_
    simp only [postTo, pending, ↓reduceIte, List.map_map]
    exact List.map_congr_left fun m _ => by by_cases e : m.key = n.key <;> simp [e]
  | false =>
    simp only [List.any_eq_false, decide_eq_true_eq] at pending
    exact .inr ⟨fun known => by obtain ⟨m, mq, e⟩ := List.mem_map.1 known; exact pending m mq e, by
      rw [postTo, if_neg (by simpa using pending), List.map_append]; rfl⟩

theorem postTo_keys_nodup {q : List Notice} (n : Notice) (distinct : (q.map Notice.key).Nodup) :
    ((postTo q n).map Notice.key).Nodup := by
  obtain same | ⟨fresh, grown⟩ := postTo_keys q n
  · exact same ▸ distinct
  · rw [grown]
    exact List.nodup_append.2 ⟨distinct, List.nodup_singleton _, fun k known l last => by
      rw [List.mem_singleton.1 last]; exact fun e => fresh (e ▸ known)⟩

theorem mem_postTo_self (q : List Notice) (n : Notice) : n ∈ postTo q n := by
  unfold postTo
  split
  · rename_i h
    obtain ⟨m, hm, e⟩ := List.any_eq_true.1 h
    exact List.mem_map.2 ⟨m, hm, by simp_all⟩
  · simp

theorem mem_postTo_other {q : List Notice} {n m : Notice} (h : m.key ≠ n.key) : m ∈ postTo q n ↔ m ∈ q := by
  have hne : m ≠ n := fun e => h (by rw [e])
  unfold postTo
  split
  · constructor
    · intro hm
      obtain ⟨x, hx, e⟩ := List.mem_map.1 hm
      split at e
      · exact absurd e.symm hne
      · exact e ▸ hx
    · intro hm
      exact List.mem_map.2 ⟨m, hm, by simp [h]⟩
  · simp [hne]

end Sys2Proof.Machine
end

