-- ==== Sys2Proof/Laws/Copies.lean ====
section
/-! SUPPORT. The order of the copies on their way: what the next copy is, and what a command does that names it or that names none. -/

namespace Sys2Proof.Machine

/-- Two copies must be taken in the order of their arrival exactly when they are on one lane (R16). -/
theorem Copy.ordered_iff (x y : Copy) : x.ordered y ↔ x.lane = y.lane := by
  cases x <;> cases y <;> simp [Copy.ordered, Copy.lane]

/-- The next copy of the block is the one that waits first on its lane. -/
theorem nextCopy_iff (s : State) (x : Copy) : NextCopy s x ↔ s.filter.next x.lane = some x := by
  unfold CellFilter.next
  rw [List.find?_eq_some_iff_append]
  constructor
  · rintro ⟨before, after, waits, free⟩
    exact ⟨by simp, before, after, waits, fun y earlier => by simpa [Copy.ordered_iff] using free y earlier⟩
  · rintro ⟨-, before, after, waits, free⟩
    exact ⟨before, after, waits, fun y earlier => by simpa [Copy.ordered_iff] using free y earlier⟩

/-- Dropping the next copy of a lane is taking that copy. -/
theorem dropCopy_next {s : State} {x : Copy} (next : NextCopy s x) : s.toBlock.dropCopy x.lane = copyTaken s x := by
  obtain ⟨before, after, waits, free⟩ := next
  have other : ∀ y ∈ before, y.lane ≠ x.lane := fun y earlier same => free y earlier ((Copy.ordered_iff y x).2 same)
  have fresh : x ∉ before := fun earlier => other x earlier rfl
  have lane : s.filter.copies.eraseP (fun y => decide (y.lane = x.lane)) = s.filter.copies.erase x := by
    rw [waits, List.erase_append_right _ fresh, List.eraseP_append_right _ (by simpa using other)]
    simp
  unfold Block.dropCopy copyTaken
  rw [lane]

/-- A command that names the next copy has its effect on the block without that copy. -/
theorem takeCopy_next {s : State} {x : Copy} {named : Copy → Bool} (act : Copy → Block → Block) (next : NextCopy s x) (h : named x = true) :
    s.toBlock.takeCopy x.lane named act = act x (copyTaken s x) := by
  rw [← dropCopy_next next]
  unfold Block.takeCopy
  rw [(nextCopy_iff s x).1 next]
  exact if_pos h

/-- A command that names no next copy changes nothing. -/
theorem takeCopy_none {s : State} {l : Lane} {named : Copy → Bool} (act : Copy → Block → Block)
    (h : ∀ x, x.lane = l → named x = true → ¬ NextCopy s x) : s.toBlock.takeCopy l named act = s.toBlock := by
  obtain ⟨x, first, fits, -⟩ | ⟨-, same⟩ := Block.takeCopy_cases s.toBlock l named act
  · have lane := (CellFilter.next_some first).1
    exact absurd ((nextCopy_iff s x).2 (lane ▸ first)) (h x lane fits)
  · exact same

/-! ## Cells that have raised KEY GAP -/

/-- A command names a copy at the Output Engines whatever its mark. -/
theorem isOutput_iff (x : Copy) (i : TunerId) (ctx : CtxId) (r : Role) (c : Cell) :
    x.isOutput i ctx r c = true ↔ ∃ m, x = .output i ctx r c m := by
  cases x <;> simp [Copy.isOutput, Copy.mark]

/-- A cell that has raised KEY GAP raises it no more. -/
@[simp] theorem Block.keyGap_raised (b : Block) (i : TunerId) (o : OutId) (label : Nat) : b.keyGap i o .raised label = b := rfl

/-- Any other copy without its key raises KEY GAP, with the further copies of its cell marked. -/
theorem Block.keyGap_raises {m : CopyMark} (h : m ≠ .raised) (b : Block) (i : TunerId) (o : OutId) (label : Nat) :
    b.keyGap i o m label = (b.noteRaised i (.out o)).raise o .keyGap label := if_neg h

/-- A copy with its mark left out. -/
def Copy.unmarked : Copy → Copy
  | .output i x r c _ => .output i x r c .first
  | y => y

/-- Marking the further copies of a cell changes marks alone: every copy stays in its place. -/
theorem markRaised_unmarked (i : TunerId) (x : CtxId) (l : List Copy) : (markRaised i x l).map Copy.unmarked = l.map Copy.unmarked := by
  fun_induction markRaised i x l <;> simp_all [Copy.unmarked]

/-- The copies of other lanes are not marked. -/
theorem markRaised_filter (i : TunerId) (x : CtxId) (l : List Copy) :
    (markRaised i x l).filter (fun y => decide (y.lane ≠ .output i x)) = l.filter (fun y => decide (y.lane ≠ .output i x)) := by
  induction l with
  | nil => rfl
  | cons y rest ih =>
    cases y <;> simp only [markRaised] <;> (repeat' split) <;> simp_all [Copy.lane]

/-- Where the next copy on the lane is the first of its cell, nothing is marked. -/
theorem markRaised_first {i : TunerId} {x : CtxId} {l : List Copy} {r : Role} {c : Cell}
    (h : l.find? (fun y => decide (y.lane = .output i x)) = some (.output i x r c .first)) : markRaised i x l = l := by
  induction l with
  | nil => rfl
  | cons y rest ih =>
    cases y <;> simp only [markRaised] <;> (repeat' split) <;> simp_all [Copy.lane]

end Sys2Proof.Machine
end

