-- ==== Sys2Proof/Laws/Link.lean ====
section
/-! SUPPORT. What every request does at the link: it is an answer, ignored once its select period has carried a request or a bad frame. -/

namespace Sys2Proof.Machine

/-- Every request is an answer, and so does one of the three things of `answer_cases`. -/
theorem exec_request {c : Instr} {h : Head} (s : State) (named : requestHead c = some h) : ∃ run, exec c s = answer h run s := by
  cases c <;> simp only [requestHead, Option.some.injEq, reduceCtorEq] at named <;> subst named <;> exact ⟨_, by rfl⟩

/-- A request that its select period no longer carries changes nothing (R195). -/
theorem exec_request_spent {c : Instr} {h : Head} {s : State} (named : requestHead c = some h) (spent : s.link.periodSpent = true) :
    exec c s = .next s := by
  obtain ⟨run, e⟩ := exec_request s named
  rw [e, answer_spent h run s spent]

end Sys2Proof.Machine
end

