-- ==== Sys2Proof/Laws/Memory.lean ====
section
/-! SUPPORT. The laws of the buffer memory: every operation keeps the canonical form, a read after a write to the same address gives the
byte written, a write leaves every other address alone, and the bytes written from an address on are the bytes read from it on. -/

namespace Sys2Proof.Machine

/-- The cells after a write: the one written, and cells that were listed before. -/
theorem mem_writeCell {cells : List Host.Cell} {address : Nat} {byte : Byte} {cell : Host.Cell}
    (listed : cell ∈ writeCell cells address byte) : cell = (address, byte) ∨ cell ∈ cells := by
  induction cells with grind [writeCell]

theorem writeCell_pairwise {cells : List Host.Cell} (address : Nat) (byte : Byte)
    (rising : cells.Pairwise fun low high => low.1 < high.1) :
    (writeCell cells address byte).Pairwise fun low high => low.1 < high.1 := by
  induction cells with
  | nil => exact List.pairwise_singleton _ _
  | cons cell above ih =>
    obtain ⟨least, risingAbove⟩ := List.pairwise_cons.1 rising
    have written := ih risingAbove
    have members : ∀ x ∈ writeCell above address byte, x = (address, byte) ∨ x ∈ above := fun _ => mem_writeCell
    unfold writeCell
    split <;> [skip; split] <;> grind [List.pairwise_cons]

theorem readCell_writeCell_same (cells : List Host.Cell) (address : Nat) (byte : Byte) :
    readCell (writeCell cells address byte) address = some byte := by
  induction cells with grind [writeCell, readCell]

theorem readCell_writeCell_other (cells : List Host.Cell) {address other : Nat} (byte : Byte) (apart : other ≠ address) :
    readCell (writeCell cells address byte) other = readCell cells other := by
  induction cells with grind [writeCell, readCell]

theorem Memory.write_wf {m : Memory} (a : Nat) (b : Byte) (h : m.wf) : (m.write a b).wf := writeCell_pairwise a b h

theorem Memory.writeBytes_wf {m : Memory} (a : Nat) (bytes : List Byte) (h : m.wf) : (m.writeBytes a bytes).wf := by
  induction bytes generalizing m a with
  | nil => exact h
  | cons first rest ih => exact ih (a + 1) (Memory.write_wf a first h)

theorem reset_memory_wf : State.reset.ringWriter.memory.wf := List.Pairwise.nil

@[simp] theorem Memory.read_write_same (m : Memory) (a : Nat) (b : Byte) : (m.write a b).read a = some b :=
  readCell_writeCell_same m.cells a b

theorem Memory.read_write_other (m : Memory) {a x : Nat} (b : Byte) (h : x ≠ a) : (m.write a b).read x = m.read x :=
  readCell_writeCell_other m.cells b h

theorem Memory.read_writeBytes_outside (m : Memory) (base address : Nat) (bytes : List Byte)
    (outside : address < base ∨ base + bytes.length ≤ address) : (m.writeBytes base bytes).read address = m.read address := by
  induction bytes generalizing m base with
  | nil => rfl
  | cons first rest ih =>
    rw [List.length_cons] at outside
    rw [Memory.writeBytes, ih (m.write base first) (base + 1) (by omega), Memory.read_write_other m first (by omega)]

theorem Memory.read_writeBytes_inside (m : Memory) (base n : Nat) (bytes : List Byte) (inside : n < bytes.length) :
    (m.writeBytes base bytes).read (base + n) = some bytes[n] := by
  induction bytes generalizing m base n with
  | nil => cases inside
  | cons first rest ih =>
    rw [Memory.writeBytes]
    cases n with
    | zero => rw [Memory.read_writeBytes_outside _ _ _ _ (.inl (by omega)), Nat.add_zero, Memory.read_write_same]; rfl
    | succ n =>
      have place : base + (n + 1) = base + 1 + n := by omega
      rw [place, ih _ _ _ (Nat.lt_of_succ_lt_succ inside)]; rfl

/-- Bytes read back: what `writeBytes` stored from an address on is what `readBytes` gives, so a stored unit drains as it was written. -/
theorem Memory.readBytes_of_read (m : Memory) (base : Nat) (bytes : List Byte)
    (stored : ∀ n (inside : n < bytes.length), m.read (base + n) = some bytes[n]) : m.readBytes base bytes.length = .ok bytes := by
  induction bytes generalizing base with
  | nil => rfl
  | cons first rest ih =>
    have head : m.read base = some first := stored 0 (Nat.zero_lt_succ _)
    have tail := ih (base + 1) fun n inside => by
      have place : base + 1 + n = base + (n + 1) := by omega
      exact place ▸ stored (n + 1) (Nat.succ_lt_succ inside)
    simp only [List.length_cons, Memory.readBytes, head, tail]

theorem Memory.readBytes_writeBytes (m : Memory) (base : Nat) (bytes : List Byte) :
    (m.writeBytes base bytes).readBytes base bytes.length = .ok bytes :=
  Memory.readBytes_of_read _ base bytes fun n inside => Memory.read_writeBytes_inside m base n bytes inside

theorem length_leBytes (n x : Nat) : (leBytes n x).length = n := by
  induction n generalizing x with
  | zero => rfl
  | succ n ih => simp [leBytes, ih]

theorem length_unitBytes (stamp : Nat) (c : Cell) : (unitBytes stamp c).length = unitLength := by
  simp [unitBytes, imageBytes, length_leBytes, unitLength]

end Sys2Proof.Machine
end

