-- ==== Sys2Proof/Laws/Verdict.lean ====
section
/-! SUPPORT. What an evaluation, a raise and a selection can change: outputs, notices and purchase records that are offered, and nothing
else. -/

namespace Sys2Proof.Machine

/-- A notice queue that comes from another by postings alone. -/
inductive Posted (q : List Notice) : List Notice → Prop where
  | refl : Posted q q
  | step {r : List Notice} (n : Notice) (h : Posted q r) : Posted q (postTo r n)

theorem Posted.trans {p q r : List Notice} (h : Posted p q) (k : Posted q r) : Posted p r := by
  induction k with
  | refl => exact h
  | step n _ ih => exact .step n ih

/-- A purchase list that comes from another by offers alone (R123). -/
inductive Offered (l : List Purchase) : List Purchase → Prop where
  | refl : Offered l l
  | step {m : List Purchase} (service eventId : Nat) (t : Terms) (h : Offered l m) (room : m.length < purchaseCapacity)
      (fresh : findPurchase m service eventId = none) : Offered l (m ++ [newPurchase service eventId t])

theorem Offered.trans {k l m : List Purchase} (h : Offered k l) (i : Offered l m) : Offered k m := by
  induction i with
  | refl => exact h
  | step s e t _ room fresh ih => exact .step s e t ih room fresh

/-- What an evaluation can change (R158, R160): every other part of the block is as it was. -/
structure Judged (b c : Block) : Prop where
  pool : c.pool = b.pool
  filter : c.filter = b.filter
  keys : c.keys = b.keys
  account : c.account = b.account
  guide : c.guide = b.guide
  profiles : c.profiles = b.profiles
  ringWriter : c.ringWriter = b.ringWriter
  ports : c.ports = b.ports
  engines : c.engines = { b.engines with outputs := c.engines.outputs }
  link : c.link = { b.link with notices := c.link.notices }
  notices : Posted b.link.notices c.link.notices
  purchases : Offered b.purchases c.purchases

theorem Judged.refl (b : Block) : Judged b b := by constructor <;> first | rfl | exact .refl

theorem Judged.trans {a b c : Block} (h : Judged a b) (k : Judged b c) : Judged a c where
  pool := k.pool.trans h.pool
  filter := k.filter.trans h.filter
  keys := k.keys.trans h.keys
  account := k.account.trans h.account
  guide := k.guide.trans h.guide
  profiles := k.profiles.trans h.profiles
  ringWriter := k.ringWriter.trans h.ringWriter
  ports := k.ports.trans h.ports
  engines := by rw [k.engines, h.engines]
  link := by rw [k.link, h.link]
  notices := h.notices.trans k.notices
  purchases := h.purchases.trans k.purchases

theorem Judged.setOut (b : Block) (o : OutId) (x : Output) : Judged b (b.setOut o x) := by
  constructor <;> first | rfl | exact .refl

theorem Judged.setFault (b : Block) (o : OutId) (x : FaultBlock) : Judged b (b.setFault o x) := .setOut ..

theorem Judged.post (b : Block) (k : NoticeKey) (n : NoticeBody) : Judged b (b.post k n) := by
  constructor <;> first | rfl | exact .step _ .refl | exact .refl

theorem Judged.foldl {α : Type} {f : Block → α → Block} (hf : ∀ b x, Judged b (f b x)) (l : List α) (b : Block) :
    Judged b (l.foldl f b) := by
  induction l generalizing b with
  | nil => exact .refl b
  | cons x xs ih => exact (hf b x).trans (ih _)

theorem findPurchase_view {p : Purchase} {l : List Purchase} {s e : Nat} (h : findPurchase l s e = some p) :
    p ∈ l ∧ p.service = s ∧ p.eventId = e := by
  have h1 := List.mem_of_find?_eq_some h
  have h2 := List.find?_some h
  simp [Purchase.is] at h2
  exact ⟨h1, h2⟩

/-- An offer for an event without a record posts at most one notice and adds at most one OFFERED record (R123). -/
theorem Block.offer_judged (b : Block) (service : Nat) (e : Event) (fresh : findPurchase b.purchases service e.eventId = none) :
    Judged b (b.offer service e).1 := by
  unfold Block.offer
  split
  · exact .refl b
  · split
    · exact .refl b
    · split
      · next h =>
        constructor <;> first | rfl | exact .step _ .refl | exact .step _ _ _ .refl h fresh
      · exact .refl b

theorem Block.purchaseTest_judged (b : Block) (service : Nat) (e : Event) : Judged b (b.purchaseTest service e).1 := by
  unfold Block.purchaseTest
  split
  · exact .refl b
  · next h =>
    have k := b.offer_judged service e h
    split <;> simp_all

theorem Block.accessTest_judged (b : Block) (p : ServicePart) (x : Output) : Judged b (b.accessTest p x).1 := by
  unfold Block.accessTest
  split
  · simp only; split
    · exact .refl b
    · split <;> exact .refl b
  · split
    · exact .refl b
    · split
      · exact .refl b
      · split <;> first | exact .refl b | exact b.purchaseTest_judged ..

/-- The ordered test changes nothing but what an offer changes (R160). -/
theorem Block.judge_judged (b : Block) (o : OutId) (p : ServicePart) : Judged b (b.judge o p).1 := by
  unfold Block.judge
  have k := b.accessTest_judged p (b.out o)
  simp only
  split
  · exact .refl b
  · split
    · exact .refl b
    · split <;> simp_all

theorem Block.takeResult_judged (b : Block) (o : OutId) (r : Result) (a : Bool) : Judged b (b.takeResult o r a) := by
  unfold Block.takeResult
  simp only
  split
  · exact (Judged.setOut ..).trans (.post ..)
  · exact .setOut ..

theorem Block.enterContainment_judged (b : Block) (o : OutId) (r : ContainReason) : Judged b (b.enterContainment o r) := by
  unfold Block.enterContainment
  simp only
  split
  · exact .setOut ..
  · refine .trans ?_ (Block.takeResult_judged ..)
    split
    · exact ((Judged.setOut ..).trans (Block.judge_judged ..)).trans (.setFault ..)
    · exact (Judged.setOut ..).trans (Block.judge_judged ..)

/-- A raise changes the output's fault block and, by containment, its verdict (R186, R187). -/
theorem Block.raise_judged (b : Block) (o : OutId) (c : FaultClass) (l : Nat) : Judged b (b.raise o c l) := by
  unfold Block.raise
  simp only
  split
  · exact .refl b
  · split
    · exact .setFault ..
    · split
      · exact ((Judged.setFault ..).trans (.post ..)).trans (Block.enterContainment_judged ..)
      · exact (Judged.setFault ..).trans (.post ..)

/-- An evaluation changes outputs, notices and offers, and nothing else (R158). -/
theorem Block.evaluateWith_judged (b : Block) (o : OutId) (a : Bool) : Judged b (b.evaluateWith o a) := by
  unfold Block.evaluateWith
  simp only
  split
  · exact .refl b
  · split
    · exact .refl b
    · split
      · exact ((b.judge_judged ..).trans (Block.takeResult_judged ..)).trans (Block.raise_judged ..)
      · exact (b.judge_judged ..).trans (Block.takeResult_judged ..)

theorem Block.evaluate_judged (b : Block) (o : OutId) : Judged b (b.evaluate o) := b.evaluateWith_judged o false

theorem Block.evaluateAll_judged (b : Block) (l : List OutId) : Judged b (b.evaluateAll l) :=
  .foldl (fun c o => c.evaluate_judged o) l b

theorem Block.tellAccount_judged (b : Block) : Judged b b.tellAccount := b.evaluateAll_judged _

theorem Block.tellPurchase_judged (b : Block) (s e : Nat) : Judged b (b.tellPurchase s e) := b.evaluateAll_judged _

theorem Block.tellProfile_judged (b : Block) (p : ProfileId) : Judged b (b.tellProfile p) := b.evaluateAll_judged _

theorem Block.selectCurrent_judged (b : Block) (o : OutId) : Judged b (b.selectCurrent o) := by
  unfold Block.selectCurrent
  simp only
  split
  · exact .refl b
  · exact .setOut ..

theorem Block.selectAndEvaluate_judged (b : Block) (o : OutId) : Judged b (b.selectAndEvaluate o) :=
  (b.selectCurrent_judged o).trans (Block.evaluate_judged ..)

/-- Selections and evaluations over several outputs change outputs, notices and offers, and nothing else (R38, R158). -/
theorem Block.selectAll_judged (b : Block) (l : List OutId) : Judged b (b.selectAll l) :=
  .foldl (fun c o => c.selectAndEvaluate_judged o) l b

end Sys2Proof.Machine
end

