-- ==== Sys2Proof/WellFormed.lean ====
section
/-! DEFINITION. Well-formed commands: every operand lies in the range that its field can carry.  A value that a field can carry and that the
manual does not allow is well formed, because the part answers it. -/

namespace Sys2Proof.WellFormed

/-- A number that fits in `n` bits. -/
def fits (n x : Nat) : Bool := decide (x < 2 ^ n)

/-- A label as a cell carries it: 13 bits (scope file, "Transport cells"). -/
def label (x : Nat) : Bool := fits 13 x

/-- Four digits as bytes of a request (R142). -/
def code (c : Code) : Bool := fits 8 c.d0 && fits 8 c.d1 && fits 8 c.d2 && fits 8 c.d3

/-- The settings of SET PROFILE in fields of whole bytes (R145). -/
def settings (x : ProfileSettings) : Bool :=
  fits 8 x.ceiling && fits 16 x.allowance && fits 16 x.windowStart && fits 16 x.windowEnd && fits 16 x.spendCeiling

/-- A record field in fields of whole bytes (R171). -/
def field (f : FieldSpec) : Bool := fits 16 f.base && fits 32 f.capacity

/-- A SEEK in fields of whole bytes (R43). -/
def seek (q : SeekQuery) : Bool :=
  fits 16 q.service && fits 16 q.fromId && fits 32 q.fromStart && fits 32 q.value && fits 16 q.limit

/-- A multiplex entry as a service map carries it (R26). -/
def muxEntry (m : MuxEntry) : Bool := fits 6 m.index && fits 32 m.freq

/-- A service entry as a service map carries it (R26). -/
def serviceEntry (s : ServiceEntry) : Bool :=
  fits 16 s.number && fits 6 s.muxIndex && label s.video && s.audios.all (fun a => label a.label && decide (a.language.length = 3))
    && s.captions.all label && s.keyLabel.all label && fits 16 s.defaultClass

/-- An event entry as an EVENT BLOCK carries it (R29, R30). -/
def eventEntry (e : EventEntry) : Bool :=
  fits 16 e.eventId && fits 32 e.start && fits 32 e.duration && fits 4 e.rating && fits 16 e.accessClass && fits 16 e.flatPrice
    && fits 12 e.rate && fits 16 e.cap && decide (e.title.length ≤ 255) && fits 16 e.series

/-- A guide section as a completed assembly gives it (R24). -/
def guideSection (x : GuideSection) : Bool :=
  match x.body with
  | .serviceMap version number last muxes services =>
    fits 5 version && fits 8 number && fits 8 last && muxes.all muxEntry && services.all serviceEntry
  | .eventBlock version number last service entries =>
    fits 5 version && fits 8 number && fits 8 last && fits 16 service && entries.all eventEntry
  | .time utc _ change => fits 32 utc && change.all fun c => fits 32 c.due
  | .other => true

/-- A transport cell: its label, its count, and at most the 184 bytes that follow a cell's four bytes of fields as its payload. -/
def cell (c : Cell) : Bool := label c.label && fits 4 c.count && decide (c.payloadLength ≤ 184) && c.guideSection.all guideSection

/-- A command whose operands lie in the ranges of their fields. -/
def command : Instr → Bool
  | .nextNotice _ | .identify _ | .restart _ | .deviceStatus _ | .start _ | .replyRead => true
  | .setLineup _ _ timeout => fits 16 timeout
  | .setHome _ freq _ guideLabel entitlementLabel => fits 32 freq && fits 16 guideLabel && fits 16 entitlementLabel
  | .setFields _ r0 r1 => r0.all field && r1.all field
  | .setPolicy _ _ _ _ => true
  | .badFrame period => decide (period ≠ [])
  | .unknownRequest _ _ => true
  | .outputStatus _ output | .wake _ output | .close _ output | .recordStop _ output | .ringStatus _ output => fits 8 output
  | .tune _ output service | .warm _ output service | .recordStart _ output service => fits 8 output && fits 16 service
  | .audio _ output index => fits 8 output && fits 8 index
  | .bind _ output profile => fits 8 output && fits 8 profile
  | .stopAt _ output time => fits 8 output && time.all (fits 32)
  | .rest _ output _ _ => fits 8 output
  | .tuners _ | .keySlots _ | .accountStatus _ | .serviceKeyList _ | .guideStatus _ | .multiplexes _ => true
  | .filter _ input => fits 8 input
  | .entitlements _ first | .services _ first => fits 16 first
  | .buy _ output service event => fits 8 output && fits 16 service && fits 16 event
  | .purchases _ first => fits 8 first
  | .seek _ q => seek q
  | .event _ service event => fits 16 service && fits 16 event
  | .setProfile _ profile c newCode x => fits 8 profile && code c && newCode.all code && settings x
  | .getProfile _ profile => fits 8 profile
  | .flipCategories _ profile _ c => fits 8 profile && code c
  | .unlock _ output c => fits 8 output && code c
  | .drain _ output half => fits 8 output && fits 8 half
  | .contain _ output | .release _ output | .clearFaults _ output _ | .faultPolicy _ output _ _ _ | .faultReport _ output => fits 8 output
  | .resetLine | .lockReport _ _ | .lockTimerExpiry _ | .retryTimerExpiry _ => true
  | .cellArrival _ c | .outputCellCopy _ _ c | .keyMessageCell _ c | .entitlementMessageCell _ c | .guideCell _ c => cell c
  | .unwrapCompletion | .drainCompletion _ | .guideSecondsExpiry | .outputEnginesSecondsExpiry _ | .entitlementSecondsExpiry
  | .purchaseSecondsExpiry | .parentalSecondsExpiry | .ringWriterSecondsExpiry | .drainUnitSent _ | .selectPeriodStart => true

end Sys2Proof.WellFormed
end

