-- ==== Sys2Proof/Tests/Slice0.lean ====
section
/-! SUPPORT. Tests on one small box in use, and witnesses: for every statement with hypotheses, a state and operands that meet them. -/

set_option Elab.async false

namespace Sys2Proof.Tests

open Sys2Proof Sys2Proof.Machine

/-! ## A box in use

RUNNING at UTC 3,000,000.  T0 is LOCKED on the home multiplex for the acquirer, T1 for P0, T2 for R0, P2 and the warm context of P0, T3 is TUNING for the warm
context of P1, T4 is in RETRY for P1, T5 is FREE, T6 and T7 are ABSENT.  P0 is LIVE on the scrambled service 101, P1 is held NO SIGNAL on 412, P2 rests light and P3
rests deep on the clear service 205, and R0 records it under a metered purchase. -/

/-- A request head of the right length, with tag 05h. -/
def hd : Head := { tag := 0x05, bodyFits := true }

/-- A request head whose body has the wrong length. -/
def shortHd : Head := { tag := 0x05, bodyFits := false }

/-- The home multiplex of the manual's worked sequences. -/
def homeMux : Mux := { freq := 330000, modulation := .q256 }

/-- A service with two audio labels. -/
def serviceRec (number muxIndex video : Nat) (keyLabel : Option Nat) (cls : Nat) : Service :=
  { number := number, muxIndex := muxIndex, video := video, audios := [⟨video + 1, []⟩, ⟨video + 2, []⟩], captions := none,
    keyLabel := keyLabel, defaultClass := cls, version := 7 }

/-- The service part that a service record gives, with tuner, signal and slot. -/
def partRec (s : Service) (t : Option TunerId) (g : Option Signal) (k : Option SlotRef) : ServicePart :=
  { partOf s 0 with tuner := t, signal := g, slot := k }

/-- A metered film on service 205: preview 180 s, interval 900 s, rate 25, cap 100. -/
def film : Event :=
  { eventId := 512, start := 2999000, duration := 3600, rating := 5, categories := 0x03, accessClass := 500, priceMode := .metered,
    flatPrice := 0, rate := 25, interval := ⟨15, 2⟩, preview := ⟨3, 2⟩, cap := 100, copy := .once, version := 1, title := [], series := some 9 }

/-- The news that follows the film, FREE and open to all. -/
def news : Event :=
  { film with eventId := 513, start := 3002600, duration := 1800, rating := 1, accessClass := 0, priceMode := .free, series := none }

/-- The purchase record of the film: METERING, one charge taken. -/
def filmRecord : Purchase :=
  { service := 205, eventId := 512, terms := ⟨.metered, 0, 25, ⟨15, 2⟩, ⟨3, 2⟩, 100, 3002600⟩, state := .metering, charged := 25, taken := 1,
    clock := 200, exhausted := false, buyer := some 0 }

/-- The film as a current event. -/
def filmNow : CurrentEvent := ⟨205, 512, 2999000, 3002600⟩

/-- A recall record of a scrambled service whose key label stands before its video label, and its audio labels after it. -/
def recallRec (number version video audio : Nat) (last : Option Nat) : RecallRecord :=
  { service := number, version := version, video := video, audioIndex := audio, audioLabel := video + 1 + audio, captions := none,
    keyLabel := some (video - 1), lastKeyVersion := last }

/-- An output with a service part, awake, with a verdict and a delivery state. -/
def awake (p : ServicePart) (c : Option CurrentEvent) (v : Verdict) (d : Delivery) : Output :=
  { Output.afterReset with part := some p, current := c, verdict := some v, delivery := d }

/-- The guide of the box. -/
def boxGuide : Guide :=
  { Guide.afterReset with
    acquirer := ⟨.collecting, some 0⟩
    mapVersion := some 7
    muxes := [⟨12, ⟨400000, .q64⟩⟩, ⟨20, ⟨500000, .q64⟩⟩, ⟨31, ⟨600000, .q64⟩⟩, ⟨44, ⟨700000, .q64⟩⟩]
    services := [serviceRec 101 12 151 (some 150) 0, serviceRec 205 20 401 none 0, serviceRec 330 31 621 (some 620) 0,
      serviceRec 412 44 701 (some 700) 0]
    pool := [⟨205, film⟩, ⟨205, news⟩]
    time := { utc := some 3000000, offset := 60, change := none } }

/-- The eight tuners of the box. -/
def boxTuners : Vector Tuner 8 :=
  #v[{ state := .locked, mux := some homeMux, order := 2, holders := [⟨.acquirer, .guide⟩], timer := none },
     { state := .locked, mux := some ⟨400000, .q64⟩, order := 2, holders := [⟨.ctx (.out 0), .primary⟩], timer := none },
     { state := .locked, mux := some ⟨500000, .q64⟩, order := 2,
       holders := [⟨.ctx (.out 4), .primary⟩, ⟨.ctx (.out 2), .primary⟩, ⟨.ctx (.warm 0), .warm⟩], timer := none },
     { state := .tuning, mux := some ⟨600000, .q64⟩, order := 3, holders := [⟨.ctx (.warm 1), .warm⟩], timer := some ⟨.lock, 700⟩ },
     { state := .retry, mux := some ⟨700000, .q64⟩, order := 65535, holders := [⟨.ctx (.out 1), .primary⟩], timer := some ⟨.retry, 1200⟩ },
     { state := .free, mux := none, order := 1, holders := [], timer := none },
     { state := .absent, mux := none, order := 1, holders := [], timer := none },
     { state := .absent, mux := none, order := 1, holders := [], timer := none }]

/-- The label tables of the box. -/
def boxTables : Vector (List LabelEntry) 8 :=
  #v[[⟨17, [.entitlement], none⟩, ⟨32, [.guide], none⟩],
     [⟨17, [.entitlement], none⟩, ⟨150, [.ctx (.out 0) .key], none⟩, ⟨151, [.ctx (.out 0) .video], some 3⟩, ⟨152, [.ctx (.out 0) .audio], none⟩],
     [⟨17, [.entitlement], none⟩, ⟨401, [.ctx (.out 2) .video, .ctx (.out 4) .video, .ctx (.warm 0) .video], some 3⟩,
      ⟨402, [.ctx (.out 2) .audio, .ctx (.out 4) .audio, .ctx (.warm 0) .audio], none⟩],
     [⟨620, [.ctx (.warm 1) .key], none⟩, ⟨621, [.ctx (.warm 1) .video], none⟩, ⟨622, [.ctx (.warm 1) .audio], none⟩],
     [⟨700, [.ctx (.out 1) .key], none⟩, ⟨701, [.ctx (.out 1) .video], none⟩, ⟨702, [.ctx (.out 1) .audio], none⟩], [], [], []]

/-- The key slots of the box: K0 LIVE for P0, K1 in AWAIT for the warm context of P1, K2 in AWAIT for P1, K3 RETAINED, the others FREE. -/
def boxSlots : Vector KeySlot 16 :=
  #v[{ state := .live, tag := some ⟨12, 150⟩, generation := 4, users := [.out 0], evenKey := some 50, oddKey := some 51, parity := some .even,
       lastVersion := some 40, retain := true, mark := none },
     { KeySlot.freed 9 with state := .await, tag := some ⟨31, 620⟩, users := [.warm 1] },
     { KeySlot.freed 12 with state := .await, tag := some ⟨44, 700⟩, users := [.out 1] },
     { KeySlot.freed 2 with state := .retained, tag := some ⟨31, 640⟩, lastVersion := some 8, retain := true, oddKey := some 60 },
     KeySlot.freed 0, KeySlot.freed 0, KeySlot.freed 0, KeySlot.freed 0, KeySlot.freed 0, KeySlot.freed 0, KeySlot.freed 0, KeySlot.freed 0,
     KeySlot.freed 0, KeySlot.freed 0, KeySlot.freed 0, KeySlot.freed 65535]

/-- The code 1234. -/
def code1234 : Code := ⟨1, 2, 3, 4⟩

/-- The code 5678. -/
def code5678 : Code := ⟨5, 6, 7, 8⟩

/-- The code 0000. -/
def code0000 : Code := ⟨0, 0, 0, 0⟩

/-- The six output contexts of the box. -/
def boxOutputs : Vector Output 6 :=
  #v[awake (partRec (serviceRec 101 12 151 (some 150) 0) (some 1) (some .locked) (some ⟨0, 4⟩)) none (.pass .freeView) .live,
     awake (partRec (serviceRec 412 44 701 (some 700) 0) (some 4) (some .notLocked) (some ⟨2, 12⟩)) none (.held .noSignal) (.held .noSignal),
     { Output.afterReset with
       part := some (partRec (serviceRec 205 20 401 none 0) (some 2) (some .locked) none), current := some filmNow, delivery := .restLight,
       restLevel := .light, tolerance := some ⟨5, 0⟩, restSeconds := 8, stopAt := some 3000600 },
     { Output.afterReset with
       part := some (partRec (serviceRec 205 20 401 none 0) none none none), current := some filmNow, delivery := .restDeep,
       restLevel := .deep, tolerance := some ⟨60, 2⟩ },
     awake (partRec (serviceRec 205 20 401 none 0) (some 2) (some .locked) none) (some filmNow) (.pass .metered) .live,
     Output.afterReset]

/-- The ring of R0: half 0 is FILLING with nothing in it yet, half 1 is FULL with one unit. -/
def boxRing : Ring :=
  { Ring.cleared (some ⟨0, 1024⟩) with
    halves := #v[Half.begun, { state := .full, count := 1, copy := some .once, first := some 1, last := some 1 }]
    writer := .writing 0
    lastFilled := some 1 }

/-- The box in use. -/
def box : State :=
  { State.reset with
    link := { State.reset.link with device := .running, home := some ⟨homeMux, 32, 17⟩ }
    pool := { tuners := boxTuners, lockTimeout := 1500 }
    filter := { tables := boxTables, copies := [] }
    engines := { outputs := boxOutputs, bound := #v[0, 1, 1, 2]
                 warms := #v[⟨.ready, some (partRec (serviceRec 205 20 401 none 0) (some 2) (some .locked) none)⟩,
                   ⟨.preparing, some (partRec (serviceRec 330 31 621 (some 620) 0) (some 3) (some .pending) (some ⟨1, 9⟩))⟩,
                   Warm.emptied, Warm.emptied]
                 recalls := vset (Vector.replicate 4 []) 0 [recallRec 412 7 701 1 (some 6), recallRec 330 6 621 0 none]
                 deepThreshold := ⟨10, 2⟩, deepen := ⟨1, 1⟩ }
    keys := { slots := boxSlots, retained := [3], queue := [], nextArrival := 7, engine := none, retention := true }
    account := { Account.factory with
                 entitlements := [⟨30, 4000000, 3500000⟩], serviceKeys := [⟨3, 77, 0, 4000000⟩], purse := 80, sequence := some 65535
                 group := some ⟨6, 20⟩ }
    purchases := [filmRecord]
    guide := boxGuide
    profiles := #v[{ Profile.factory true 65535 with code := some code1234, day := 34 }, { Profile.factory true 500 with code := some code5678, day := 34 },
      { Profile.factory false 0 with day := 34 }, Profile.factory false 0, Profile.factory false 0, Profile.factory false 0, Profile.factory false 0,
      Profile.factory false 0]
    ringWriter := { rings := #v[boxRing, Ring.cleared none], stamp := 2
                    memory := { cells := (List.range 192).map fun i => (196608 + i, BitVec.ofNat 8 i) } } }

/-- The state after a command that goes on, the state itself otherwise. -/
def done (c : Instr) (s : State) : State :=
  match exec c s with
  | .next t => t
  | _ => s

/-- The state in a select period of its own. -/
def nextPeriod (s : State) : State := done .selectPeriodStart s

/-- The body of the reply in the slot. -/
def said (s : State) : Option ReplyBody := s.link.slot.map (·.body)

/-- The keys of the pending notices. -/
def posted (s : State) : List NoticeKey := s.link.notices.map (·.key)

/-- A state with these copies on their way. -/
def waiting (s : State) (l : List Copy) : State := { s with filter := { s.filter with copies := l } }

/-- The first of the copies on their way is the next one, wherever it goes. -/
theorem first_is_next (s : State) (x : Copy) (l : List Copy) : NextCopy (waiting s (x :: l)) x := ⟨[], l, rfl, fun _ none => nomatch none⟩

theorem box_notices : NoticesDistinct box.toBlock := by unfold NoticesDistinct; decide +kernel
theorem box_purse : PurseBounded box.toBlock := by unfold PurseBounded; decide +kernel
theorem box_account : AccountBounded box.toBlock := by unfold AccountBounded; decide +kernel
theorem box_purchases : PurchasesDistinct box.toBlock := by unfold PurchasesDistinct; decide +kernel
theorem box_charges : ChargesInStep box.toBlock := by unfold ChargesInStep; decide +kernel
theorem box_recalls : RecallsDistinct box.toBlock := by unfold RecallsDistinct; decide +kernel
theorem box_queue : KeyQueueDistinct box.toBlock := by unfold KeyQueueDistinct; decide +kernel
theorem box_slots : SlotsConsistent box.toBlock := by unfold SlotsConsistent; decide +kernel
theorem box_tuners : TunersConsistent box.toBlock := by unfold TunersConsistent; decide +kernel
theorem box_profiles : ProfilesBounded box.toBlock := by unfold ProfilesBounded; decide +kernel
theorem box_memory : BufferCanonical box.toBlock := by unfold BufferCanonical; decide +kernel
theorem box_tables : TablesOrdered box.toBlock := by unfold TablesOrdered; decide +kernel
theorem box_pool : PoolOrdered box.toBlock := by unfold PoolOrdered; decide +kernel
theorem box_running : RunningHasGuide box.toBlock := by unfold RunningHasGuide; decide +kernel

theorem box_delivery : DeliveryFollows box.toBlock := by
  intro o
  match o with
  | 0 => exact ⟨by decide, (Or.inl rfl : (box.out 0).delivery = .live ∨ (box.out 0).delivery = .keying)⟩
  | 1 => exact ⟨by decide, (rfl : (box.out 1).delivery = .held .noSignal)⟩
  | 2 => exact ⟨rfl, rfl⟩
  | 3 => exact ⟨rfl, rfl⟩
  | 4 => exact ⟨by decide, (Or.inl rfl : (box.out 4).delivery = .live ∨ (box.out 4).delivery = .keying)⟩
  | 5 => exact ⟨rfl, rfl, rfl⟩
theorem box_warms : WarmFollows box.toBlock := by
  intro w
  match w with
  | 0 => exact ⟨nofun, fun _ _ => rfl, fun _ unready => absurd ⟨rfl, .inl rfl⟩ unready⟩
  | 1 => exact ⟨nofun, fun _ (ready : partReady _ _) => absurd ready.1 (by decide), fun _ _ => rfl⟩
  | 2 => exact rfl
  | 3 => exact rfl
theorem box_current : CurrentMatches box.toBlock := by
  have own : ∀ o : OutId, ((box.out o).current.map (·.service)).all (fun n => (box.out o).part.map (·.service) == some n) = true := by
    decide +kernel
  intro o e now
  simpa [now] using own o

/-- A ring is consistent when its halves are, its writer writes into a FILLING half, and nothing drains. -/
theorem ring_consistent (x : Ring) (f : FieldSpec) (size : 1 ≤ f.capacity) (halves : ∀ h, HalfConsistent x f h)
    (filling : ∀ h, x.writer = .writing h → (x.half h).state = .filling) (still : ∀ h, (x.half h).state ≠ .draining) (idle : x.drain = none) :
    (∀ h, HalfConsistent x f h) ∧ 1 ≤ f.capacity ∧ (∀ h, x.writer = .writing h → (x.half h).state = .filling)
      ∧ (∀ h, (x.half h).state = .draining ↔ x.drain.map (·.half) = some h) ∧ ∀ d, x.drain = some d → d.sent ≤ (x.half d.half).count := by
  refine ⟨halves, size, filling, fun h => ?_, fun d busy => ?_⟩
  · simp [idle, still h]
  · simp [idle] at busy
theorem box_halves (h : HalfId) : HalfConsistent boxRing ⟨0, 1024⟩ h := by
  match h with
  | 0 => simp only [HalfConsistent, (by decide : (boxRing.half 0).state = .filling)]; decide +kernel
  | 1 => simp only [HalfConsistent, (by decide : (boxRing.half 1).state = .full)]; decide +kernel
theorem box_rings : RingsConsistent box.toBlock := fun r =>
  match r with
  | 0 => ring_consistent boxRing ⟨0, 1024⟩ (by decide) box_halves (by decide) (by decide) rfl
  | 1 => rfl

/-- Every context is one of the ten. -/
theorem ctx_mem (x : CtxId) : x ∈ CtxId.all := by
  cases x with
  | out o => revert o; decide
  | warm w => revert w; decide

/-- A label stands in a service part in a role exactly when its listing has the two together. -/
theorem inListing_iff (p : ServicePart) (l : Nat) (r : Role) : inListing p l r ↔ (l, r) ∈ p.listing := by
  cases r <;> cases e : p.captions <;> cases k : p.keyLabel <;> simp [inListing, ServicePart.listing, e, k, eq_comm]

/-- Whether the contexts of a block are settled, by its holder lists, label tables and slots one by one. -/
def settledNow (b : Block) : Bool :=
  (CtxId.all.all fun x =>
    (tunerIds.all fun t => (b.tuner t).holds (.ctx x) == (b.part? x).any fun p => p.tuner == some t)
    && (slotIds.all fun k => decide (x ∈ (b.slot k).users) == (b.part? x).any fun p => p.slot.any fun r => r.slot == k)
    && (b.part? x).all fun p =>
      p.signal == (p.tuner.bind fun t => signalBy (b.tuner t).state)
      && (p.tuner.all fun i => p.listing.all fun l => (b.table i).any fun e => e.label == l.1 && decide (Dest.ctx x l.2 ∈ e.dests))
      && p.slot.all fun r => (b.slot r.slot).generation == r.generation && p.tuner.isSome && p.keyLabel.isSome
          && (b.slot r.slot).tag == p.keyLabel.map fun l => { muxIndex := p.muxIndex, label := l })
  && (tunerIds.all fun i => (b.table i).all fun e => e.dests.all fun d =>
    match d with
    | .ctx x r => (b.part? x).any fun p => p.tuner == some i && decide ((e.label, r) ∈ p.listing)
    | .entitlement | .guide => (b.tuner i).state == .locked)
  && (tunerIds.all fun t => (b.tuner t).holds .acquirer == (b.guide.acquirer.tuner == some t))
  && b.guide.acquirer.tuner.isSome == (b.guide.acquirer.state == .tuning || b.guide.acquirer.state == .collecting)
  && b.link.device == .running

theorem tuner_mem (t : TunerId) : t ∈ tunerIds := by revert t; decide
theorem slot_mem (k : SlotId) : k ∈ slotIds := by revert k; decide

theorem settled_of (b : Block) (h : settledNow b = true) : Settled b := by
  simp only [settledNow, Bool.and_eq_true, List.all_eq_true] at h
  obtain ⟨⟨⟨⟨ctx, tables⟩, acquirer⟩, named⟩, device⟩ := h
  have ctx := fun x => ctx x (ctx_mem x)
  refine ⟨⟨fun x t => ?_, fun x p at_ => ?_, fun i x l r => ⟨?_, ?_⟩, fun i l part => ?_⟩, ⟨fun x k => ?_, fun x p r at_ slot => ?_⟩,
    ⟨fun t => ?_, ?_⟩, fun _ stopped => ?_⟩
  · have := (ctx x).1.1 t (tuner_mem t)
    rw [beq_iff_eq.1 this]
    cases b.part? x <;> simp
  · have := (ctx x).2
    simp only [at_, Option.all_some, Bool.and_eq_true, beq_iff_eq] at this
    exact this.1.1
  · rintro ⟨e, mem, rfl, dest⟩
    have := tables i (tuner_mem i) e mem _ dest
    simp only [Option.any_eq_true, Bool.and_eq_true, beq_iff_eq, decide_eq_true_eq] at this
    obtain ⟨p, at_, on, listed⟩ := this
    exact ⟨p, at_, on, (inListing_iff _ _ _).2 listed⟩
  · rintro ⟨p, at_, on, listed⟩
    have := (ctx x).2
    simp only [at_, on, Option.all_some, Bool.and_eq_true, List.all_eq_true, List.any_eq_true, beq_iff_eq, decide_eq_true_eq] at this
    obtain ⟨e, mem, label, dest⟩ := this.1.2 _ ((inListing_iff _ _ _).1 listed)
    exact ⟨e, mem, label, dest⟩
  · rcases part with ⟨e, mem, -, dest⟩ | ⟨e, mem, -, dest⟩ <;> exact beq_iff_eq.1 (tables i (tuner_mem i) e mem _ dest)
  · have := beq_iff_eq.1 ((ctx x).1.2 k (slot_mem k))
    rw [← decide_eq_true_eq (p := x ∈ (b.slot k).users), this]
    cases b.part? x <;> simp [Option.any_eq_true]
  · have := (ctx x).2
    simp only [at_, slot, Option.all_some, Bool.and_eq_true, beq_iff_eq] at this
    obtain ⟨-, ⟨⟨gen, on⟩, key⟩, tag⟩ := this
    exact ⟨gen, Option.isSome_iff_ne_none.1 on, Option.isSome_iff_ne_none.1 key, tag⟩
  · rw [beq_iff_eq.1 (acquirer t (tuner_mem t)), beq_iff_eq]
  · rw [← Option.isSome_iff_ne_none, beq_iff_eq.1 named]
    simp
  · exact absurd (beq_iff_eq.1 device) stopped

theorem box_settled : Settled box.toBlock := settled_of _ (by decide +kernel)

theorem box_partWide : PartWideOfHome box.toBlock := by
  have named : ∀ i, ∀ e ∈ box.table i, (.entitlement ∈ e.dests → e.label = 17) ∧ (.guide ∈ e.dests → e.label = 32 ∧ (box.tuner i).mux = some homeMux) := by
    decide +kernel
  refine fun i l => ⟨?_, ?_⟩ <;> rintro ⟨e, mem, rfl, dest⟩
  · exact ⟨_, rfl, (named i e mem).1 dest⟩
  · exact ⟨_, rfl, (named i e mem).2 dest⟩
theorem box_live : LiveIsReady box.toBlock := by
  intro o p live at_
  match o with
  | 0 => cases at_; exact ⟨rfl, .inr ⟨⟨0, 4⟩, rfl, rfl⟩⟩
  | 4 => cases at_; exact ⟨rfl, .inl rfl⟩
  | 1 | 2 | 3 | 5 => cases live

/-- The unit that half 1 of R0 holds has been written whole. -/
theorem box_unit (i : Nat) (inUnit : i < unitLength) : box.ringWriter.memory.read (unitAddress ⟨0, 1024⟩ 1 0 + i) ≠ none := by
  have whole : ∀ i < unitLength, box.ringWriter.memory.read (unitAddress ⟨0, 1024⟩ 1 0 + i) ≠ none := by decide +kernel
  exact whole i inUnit
theorem box_units : UnitsWritten box.toBlock := by
  intro r f h n i field stored inUnit
  have only : ∀ (r : RecId) (h : HalfId), ((box.ring r).half h).count = if r = 0 ∧ h = 1 then 1 else 0 := by decide +kernel
  rw [only] at stored
  split at stored
  · rename_i first
    obtain ⟨rfl, rfl⟩ := first
    obtain rfl : f = ⟨0, 1024⟩ := Option.some.inj field.symm
    obtain rfl : n = 0 := by omega
    exact box_unit i inUnit
  · omega

/-! ## Well-formed commands: for each check a term that it refuses -/

theorem wf_box_commands : WellFormed.command (.tune hd 0 205) = true ∧ WellFormed.command (.drain hd 4 1) = true := by decide
theorem wf_lineup : WellFormed.command (.setLineup hd 1 65536) = false := by decide
theorem wf_home : WellFormed.command (.setHome hd 4294967296 none 32 17) = false ∧ WellFormed.command (.setHome hd 330000 none 65536 17) = false
    ∧ WellFormed.command (.setHome hd 330000 none 32 65536) = false := by decide
theorem wf_fields : WellFormed.command (.setFields hd (some ⟨65536, 1024⟩) none) = false
    ∧ WellFormed.command (.setFields hd none (some ⟨0, 4294967296⟩)) = false := by decide
theorem wf_badFrame : WellFormed.command (.badFrame []) = false := by decide
theorem wf_output_ids : WellFormed.command (.outputStatus hd 256) = false ∧ WellFormed.command (.wake hd 256) = false
    ∧ WellFormed.command (.close hd 256) = false ∧ WellFormed.command (.recordStop hd 256) = false ∧ WellFormed.command (.ringStatus hd 256) = false
    ∧ WellFormed.command (.rest hd 256 ⟨0, 0⟩ false) = false ∧ WellFormed.command (.contain hd 256) = false
    ∧ WellFormed.command (.release hd 256) = false ∧ WellFormed.command (.clearFaults hd 256 ⟨[], false⟩) = false
    ∧ WellFormed.command (.faultPolicy hd 256 ⟨[], false⟩ ⟨[], false⟩ true) = false ∧ WellFormed.command (.faultReport hd 256) = false := by decide
theorem wf_services : WellFormed.command (.tune hd 0 65536) = false ∧ WellFormed.command (.tune hd 256 1) = false
    ∧ WellFormed.command (.warm hd 0 65536) = false ∧ WellFormed.command (.recordStart hd 4 65536) = false := by decide
theorem wf_audio_bind : WellFormed.command (.audio hd 256 0) = false ∧ WellFormed.command (.audio hd 0 256) = false
    ∧ WellFormed.command (.bind hd 256 0) = false ∧ WellFormed.command (.bind hd 0 256) = false := by decide
theorem wf_stopAt : WellFormed.command (.stopAt hd 256 none) = false ∧ WellFormed.command (.stopAt hd 0 (some 4294967296)) = false := by decide
theorem wf_queries : WellFormed.command (.filter hd 256) = false ∧ WellFormed.command (.entitlements hd 65536) = false
    ∧ WellFormed.command (.services hd 65536) = false ∧ WellFormed.command (.purchases hd 256) = false
    ∧ WellFormed.command (.event hd 65536 1) = false ∧ WellFormed.command (.event hd 1 65536) = false
    ∧ WellFormed.command (.getProfile hd 256) = false := by decide
theorem wf_buy : WellFormed.command (.buy hd 256 1 1) = false ∧ WellFormed.command (.buy hd 0 65536 1) = false
    ∧ WellFormed.command (.buy hd 0 1 65536) = false := by decide

/-- A SEEK for the next event of a rating. -/
def seekQ : SeekQuery :=
  { service := 205, fromId := 0, fromStart := 0, direction := .forward, includeFrom := false, field := .rating, condition := .le, value := 1,
    limit := 5 }

theorem wf_seek : WellFormed.command (.seek hd seekQ) = true ∧ WellFormed.command (.seek hd { seekQ with service := 65536 }) = false
    ∧ WellFormed.command (.seek hd { seekQ with fromId := 65536 }) = false ∧ WellFormed.command (.seek hd { seekQ with fromStart := 4294967296 }) = false
    ∧ WellFormed.command (.seek hd { seekQ with value := 4294967296 }) = false ∧ WellFormed.command (.seek hd { seekQ with limit := 65536 }) = false := by
  decide

/-- The factory settings. -/
def settings : ProfileSettings := ProfileSettings.factory true 500

theorem wf_setProfile : WellFormed.command (.setProfile hd 256 code0000 none settings) = false
    ∧ WellFormed.command (.setProfile hd 0 ⟨256, 0, 0, 0⟩ none settings) = false
    ∧ WellFormed.command (.setProfile hd 0 code0000 (some ⟨0, 256, 0, 0⟩) settings) = false
    ∧ WellFormed.command (.setProfile hd 0 code0000 none { settings with ceiling := 256 }) = false
    ∧ WellFormed.command (.setProfile hd 0 code0000 none { settings with allowance := 65536 }) = false
    ∧ WellFormed.command (.setProfile hd 0 code0000 none { settings with windowStart := 65536 }) = false
    ∧ WellFormed.command (.setProfile hd 0 code0000 none { settings with windowEnd := 65536 }) = false
    ∧ WellFormed.command (.setProfile hd 0 code0000 none { settings with spendCeiling := 65536 }) = false := by decide
theorem wf_codes : WellFormed.command (.flipCategories hd 256 0 code0000) = false ∧ WellFormed.command (.flipCategories hd 0 0 ⟨0, 0, 256, 0⟩) = false
    ∧ WellFormed.command (.unlock hd 256 code0000) = false ∧ WellFormed.command (.unlock hd 0 ⟨0, 0, 0, 256⟩) = false := by decide
theorem wf_drain : WellFormed.command (.drain hd 256 0) = false ∧ WellFormed.command (.drain hd 4 256) = false := by decide

/-- A cell with nothing in it. -/
def cell (label count : Nat) : Cell := { label := label, scramble := .clear, count := count, start := true, image := 5 }

/-- A service entry of a SERVICE MAP without audio labels. -/
def serviceNow : ServiceEntry :=
  { number := 1, muxIndex := 1, video := 1, audios := [], captions := none, keyLabel := none, defaultClass := 0 }

/-- A guide cell that completes a section. -/
def guideCellOf (x : SectionBody) : Cell :=
  { cell 32 0 with payloadLength := 100, statedTotal := some 90, guideSection := some { body := x, checkAgrees := true } }

theorem wf_cells : WellFormed.command (.cellArrival 0 (cell 8192 0)) = false ∧ WellFormed.command (.keyMessageCell 0 (cell 1 16)) = false
    ∧ WellFormed.command (.entitlementMessageCell 0 { cell 1 0 with payloadLength := 185 }) = false
    ∧ WellFormed.command (.outputCellCopy ⟨0, .out 0⟩ .video (cell 8192 0)) = false := by decide
theorem wf_maps : WellFormed.command (.guideCell 0 (guideCellOf (.serviceMap 32 0 0 [] []))) = false
    ∧ WellFormed.command (.guideCell 0 (guideCellOf (.serviceMap 7 256 0 [] []))) = false
    ∧ WellFormed.command (.guideCell 0 (guideCellOf (.serviceMap 7 0 256 [] []))) = false
    ∧ WellFormed.command (.guideCell 0 (guideCellOf (.serviceMap 7 0 0 [⟨64, 1, none⟩] []))) = false
    ∧ WellFormed.command (.guideCell 0 (guideCellOf (.serviceMap 7 0 0 [⟨1, 4294967296, none⟩] []))) = false
    ∧ WellFormed.command (.guideCell 0 (guideCellOf (.serviceMap 7 0 0 [] [⟨65536, 1, 1, [], none, none, 0⟩]))) = false
    ∧ WellFormed.command (.guideCell 0 (guideCellOf (.serviceMap 7 0 0 [] [⟨1, 64, 1, [], none, none, 0⟩]))) = false
    ∧ WellFormed.command (.guideCell 0 (guideCellOf (.serviceMap 7 0 0 [] [⟨1, 1, 8192, [], none, none, 0⟩]))) = false
    ∧ WellFormed.command (.guideCell 0 (guideCellOf (.serviceMap 7 0 0 [] [{ serviceNow with audios := [⟨1, []⟩] }]))) = false
    ∧ WellFormed.command (.guideCell 0 (guideCellOf (.serviceMap 7 0 0 [] [⟨1, 1, 1, [], some 8192, none, 0⟩]))) = false
    ∧ WellFormed.command (.guideCell 0 (guideCellOf (.serviceMap 7 0 0 [] [⟨1, 1, 1, [], none, some 8192, 0⟩]))) = false
    ∧ WellFormed.command (.guideCell 0 (guideCellOf (.serviceMap 7 0 0 [] [⟨1, 1, 1, [], none, none, 65536⟩]))) = false := by decide

/-- An entry of an EVENT BLOCK for an hour from a start on. -/
def entry (id start : Nat) : EventEntry :=
  { eventId := id, start := start, duration := 3600, rating := 3, categories := 0, accessClass := 0, priceMode := .free, flatPrice := 0, rate := 0,
    interval := ⟨0, 0⟩, preview := ⟨0, 0⟩, cap := 0, copy := .free, title := [], series := 0 }

/-- An EVENT BLOCK of service 205 with one entry. -/
def block (e : EventEntry) : Instr := .guideCell 0 (guideCellOf (.eventBlock 2 0 0 205 [e]))

theorem wf_events : WellFormed.command (block (entry 600 3100000)) = true ∧ WellFormed.command (block (entry 65536 0)) = false
    ∧ WellFormed.command (block (entry 1 4294967296)) = false ∧ WellFormed.command (block { entry 1 0 with duration := 4294967296 }) = false
    ∧ WellFormed.command (block { entry 1 0 with rating := 16 }) = false ∧ WellFormed.command (block { entry 1 0 with accessClass := 65536 }) = false
    ∧ WellFormed.command (block { entry 1 0 with flatPrice := 65536 }) = false ∧ WellFormed.command (block { entry 1 0 with rate := 4096 }) = false
    ∧ WellFormed.command (block { entry 1 0 with cap := 65536 }) = false ∧ WellFormed.command (block { entry 1 0 with series := 65536 }) = false
    ∧ WellFormed.command (block { entry 1 0 with title := List.replicate 256 0 }) = false
    ∧ WellFormed.command (.guideCell 0 (guideCellOf (.eventBlock 32 0 0 205 []))) = false
    ∧ WellFormed.command (.guideCell 0 (guideCellOf (.eventBlock 2 256 0 205 []))) = false
    ∧ WellFormed.command (.guideCell 0 (guideCellOf (.eventBlock 2 0 256 205 []))) = false
    ∧ WellFormed.command (.guideCell 0 (guideCellOf (.eventBlock 2 0 0 65536 []))) = false := by decide +kernel
theorem wf_time : WellFormed.command (.guideCell 0 (guideCellOf (.time 4294967296 0 none))) = false
    ∧ WellFormed.command (.guideCell 0 (guideCellOf (.time 0 0 (some ⟨4294967296, 0⟩)))) = false := by decide

/-! ## The link and start-up (R195 to R205) -/

theorem test_nextNotice_none : said (done (.nextNotice hd) box) = some (.data .noNotice) := by decide +kernel
theorem test_identify : said (done (.identify hd) box) = some (.data (.identity 0x0B4E 0x4860 1 0)) := by decide +kernel
theorem test_restart : (((done (.restart hd) box).out 0).delivery, ((done (.restart hd) box).tuner 0).order, posted (done (.restart hd) box))
    = (.off, 4, [.guide]) := by decide +kernel
theorem test_deviceStatus : said (done (.deviceStatus hd) box) = some (.data (.deviceStatus .running true true 0 false)) := by decide +kernel
theorem test_setLineup : ((done (.setLineup hd 0x0F 1500) State.reset).link.device, ((done (.setLineup hd 0x0F 1500) State.reset).tuner 4).state)
    = (.configuring 1, .absent) := by decide +kernel
theorem test_setHome_order : said (done (.setHome hd 330000 (some .q256) 32 17) State.reset) = some (.refused .order) := by decide +kernel

/-- The reset state at a stage of start-up, with SET HOME taken. -/
def atStage (n : Nat) : State :=
  { State.reset with link := { State.reset.link with device := .configuring n, home := some ⟨homeMux, 32, 17⟩ } }

theorem test_setFields_overlap : said (done (.setFields hd (some ⟨0, 1024⟩) (some ⟨5, 1024⟩)) (atStage 2)) = some (.refused .overlap)
    ∧ said (done (.setFields hd (some ⟨0, 1024⟩) (some ⟨6, 1024⟩)) (atStage 2)) = some .ack := by decide +kernel
theorem test_setPolicy : (done (.setPolicy hd ⟨10, 2⟩ ⟨1, 1⟩ true) (atStage 3)).keys.retention = true := by decide +kernel
theorem test_start : ((done (.start hd) (atStage 4)).link.device, ((done (.start hd) (atStage 4)).ports.tuning.get 0).getLast?)
    = (.starting, some (.tune 2 homeMux)) := by decide +kernel
theorem test_badFrame : (done (.badFrame [0x55]) box).link.slot = some { tag := 0, body := .refused .badFrame } := by decide +kernel
theorem test_unknownRequest : (done (.unknownRequest 9 0x77) box).link.slot = some { tag := 9, body := .refused .unknownRequest } := by decide +kernel
theorem test_replyRead : (done .replyRead (done .selectPeriodStart (done (.identify hd) box))).link.slot = none := by decide +kernel
theorem test_selectPeriodStart : (done .selectPeriodStart (done (.rest hd 9 ⟨0, 0⟩ true) box)).link.clocking
    = some { tag := 0x05, body := .refused .badArgument } := by decide +kernel
/-- R195: what follows a request or a bad frame in its period is ignored. -/
theorem test_second_request : done (.contain hd 0) (done (.identify hd) box) = done (.identify hd) box
    ∧ done (.badFrame [0x55]) (done (.identify hd) box) = done (.identify hd) box
    ∧ done (.contain hd 0) (done (.badFrame [0x55]) box) = done (.badFrame [0x55]) box
    ∧ done (.identify hd) (done (.unknownRequest 9 0x77) box) = done (.unknownRequest 9 0x77) box := by decide +kernel
/-- R195: the next period carries a request again; bytes that are no bad frame are no request of their period. -/
theorem test_next_period : said (done (.contain hd 0) (nextPeriod (done (.identify hd) box))) = some .ack
    ∧ said (done (.contain hd 0) (done (.badFrame [0x00, 0x55]) box)) = some .ack := by decide +kernel
theorem test_wrong_length : said (done (.identify shortHd) box) = some (.refused .badArgument) := by decide +kernel

/-! ## Outputs (R53 to R77) -/

theorem test_outputStatus : ∃ v, said (done (.outputStatus hd 0) box) = some (.data (.outputStatus 0 v)) ∧ v.delivery = .live ∧ v.recalls.length = 2 :=
  ⟨box.outputView 0, by decide +kernel, by decide +kernel, by decide +kernel⟩
theorem test_tune_warm : let s := done (.tune hd 0 205) box
    ((s.out 0).part.map (·.service), (s.warm 0).part.map (·.service), (s.recalls 0).head?.map fun r => (r.service, r.lastKeyVersion), s.ports == box.ports)
      = (some 205, some 101, some (101, some 40), true) := by decide +kernel
theorem test_tune_shares : let s := done (.tune hd 0 330) box
    ((s.out 0).delivery, (s.out 0).part.bind (·.tuner), (s.tuner 1).state, (s.ports.tuning.get 1).getLast?) = (.tuning, some 3, .free, some (.halt 3)) := by
  decide +kernel
theorem test_warm : let s := done (.warm hd 0 330) box
    ((s.warm 0).state, (s.tuner 3).holders.length, (s.tuner 2).holders.length, posted s) = (.preparing, 2, 2, [.warm 0]) := by decide +kernel
theorem test_audio : ((done (.audio hd 0 1) box).table 1).map (·.label) = [17, 150, 151, 153] := by decide +kernel
theorem test_bind : (done (.bind hd 0 2) box).boundProfile 0 = 2 := by decide +kernel
theorem test_stopAt_now : let s := done (.stopAt hd 0 (some 3000000)) box
    ((s.out 0).delivery, (s.out 0).stopAt, (s.out 0).verdict, posted s) = (.restLight, none, none, [.output 0]) := by decide +kernel
theorem test_rest_deep : let s := done (.rest hd 0 ⟨10, 2⟩ false) box
    ((s.out 0).delivery, (s.tuner 1).state, (s.slot 0).state, s.keys.retained) = (.restDeep, .free, .retained, [3, 0]) := by decide +kernel
theorem test_rest_light : (((done (.rest hd 0 ⟨9, 2⟩ true) box).out 0).delivery, ((done (.rest hd 0 ⟨9, 2⟩ true) box).tuner 1).state)
    = (.restLight, .locked) := by decide +kernel
theorem test_wake_deep : let s := done (.wake hd 3) box
    ((s.out 3).delivery, (s.out 3).verdict, (s.tuner 2).holders.getLast?) = (.live, some (.pass .metered), some ⟨.ctx (.out 3), .primary⟩) := by
  decide +kernel
theorem test_close : let s := done (.close hd 1) box
    ((s.out 1).delivery, (s.tuner 4).order, (s.slot 2).state, (s.recalls 1).map (·.service)) = (.off, 0, .free, [412]) := by decide +kernel

/-! ## Queries of tuners, filter, keys, account and guide -/

theorem test_tuners : said (done (.tuners hd) box) = some (.data (.tuners box.pool.tuners.toList)) := by decide +kernel
theorem test_filter : said (done (.filter hd 0) box) = some (.data (.filter [⟨17, [.entitlement], none⟩, ⟨32, [.guide], none⟩]))
    ∧ said (done (.filter hd 8) box) = some (.refused .badArgument) := by decide +kernel
theorem test_keySlots : (box.keys.slotView 3).retainedPlace = some 0 ∧ (box.keys.slotView 0).hasOdd = true := by decide +kernel
theorem test_accountStatus : said (done (.accountStatus hd) box) = some (.data (.accountStatus 0 (some ⟨6, 20⟩) 80 (some 65535) 1 1 0 true)) := by
  decide +kernel
theorem test_entitlements_past : said (done (.entitlements hd 31) box) = some (.data (.entitlements [] false)) := by decide +kernel
theorem test_serviceKeyList : said (done (.serviceKeyList hd) box) = some (.data (.serviceKeys [(3, 0, 4000000, true)])) := by decide +kernel
theorem test_purchases_past : said (done (.purchases hd 1) box) = some (.data (.purchases [] false)) := by decide +kernel
theorem test_guideStatus : said (done (.guideStatus hd) box)
    = some (.data (.guideStatus ⟨.collecting, some 0⟩ (some 7) none 4 4 2 ⟨some 3000000, 60, none⟩ (some 34) (some 1100))) := by decide +kernel
theorem test_seek : said (done (.seek hd seekQ) box) = some (.data (.seek (.found 513 3002600 2 3)))
    ∧ said (done (.seek hd { seekQ with limit := 1 }) box) = some (.data (.seek (.limit 513 3002600 1))) := by decide +kernel
theorem test_multiplexes : said (done (.multiplexes hd) box) = some (.data (.multiplexes box.guide.muxes)) := by decide +kernel
theorem test_services_past : said (done (.services hd 413) box) = some (.data (.services [] false)) := by decide +kernel
theorem test_event : said (done (.event hd 205 0) box) = some (.data (.event film)) ∧ said (done (.event hd 205 9) box) = some (.refused .unknownEvent) := by
  decide +kernel

/-! ## Purchases (R125 to R137) -/

theorem test_buy_bought : said (done (.buy hd 0 205 512) box) = some (.refused .alreadyBought)
    ∧ said (done (.buy hd 0 205 513) box) = some (.refused .priceInvalid) := by decide +kernel

/-- The box before the film was bought, its preview over. -/
def boxOffered : State := { box with purchases := [{ filmRecord with state := .offered, charged := 0, taken := 0, clock := 180, buyer := none }] }

theorem test_buy_metered : let s := done (.buy hd 0 205 0) boxOffered
    said s = some (.data (.bought ⟨205, 512, .metering, 25, 1, 180, false⟩ 55)) := by decide +kernel
theorem test_purchase_second : let s := done .purchaseSecondsExpiry { box with purchases := [{ filmRecord with clock := 1079 }] }
    (s.purchases.map fun p => (p.clock, p.taken, p.charged), s.account.purse) = ([(1080, 2, 50)], 55) := by decide +kernel

/-! ## Parental limits (R141 to R155) -/

theorem test_setProfile_wrong : let s := done (.setProfile hd 2 code0000 none settings) box
    (said s, (s.profile 0).wrongCodes) = (some (.refused .wrongCode), 1) := by decide +kernel
theorem test_setProfile : ((done (.setProfile hd 2 code1234 none settings) box).profile 2).settings = settings := by decide +kernel
theorem test_getProfile : said (done (.getProfile hd 1) box)
    = some (.data (.profile (ProfileSettings.factory true 500) true 0 34 0 0 false [1, 2])) := by decide +kernel
theorem test_flip : ((done (.flipCategories hd 1 0x81 code1234) box).profile 1).settings.blocked = 0x81 := by decide +kernel
theorem test_unlock : ((done (.unlock hd 1 code5678) box).out 1).override = some ⟨.content, 412, none⟩
    ∧ ((done (.unlock hd 1 code1234) box).out 1).override = some ⟨.all, 412, none⟩ := by decide +kernel
theorem test_parental_second : ((done .parentalSecondsExpiry box).profile 0).spent = 1 ∧ ((done .parentalSecondsExpiry box).profile 1).spent = 0 := by
  decide +kernel

/-! ## Recording (R170 to R182) -/

theorem test_recordStart_noField : said (done (.recordStart hd 5 205) box) = some (.refused .wrongState)
    ∧ said (done (.recordStart hd 4 205) box) = some .ack := by decide +kernel
theorem test_recordStop : let s := done (.recordStop hd 4) box
    ((s.out 4).delivery, (s.ring 0).writer, ((s.ring 0).half 0).state, ((s.ring 0).half 1).state) = (.off, .idle, .free, .full) := by decide +kernel
theorem test_drain : ((done (.drain hd 4 1) box).ports.record.get 0) = [.header 0 1 .once 1 1 1] := by decide +kernel
theorem test_ringStatus : said (done (.ringStatus hd 4) box) = some (.data (.ring ⟨some ⟨0, 1024⟩, boxRing.halves, .writing 0, some 1, none⟩ 2)) := by decide +kernel

/-- The box while it drains half 1. -/
def boxDraining : State := done (.drain hd 4 1) box

theorem test_drainUnitSent : ((done (.drainUnitSent 0) boxDraining).ports.record.get 0).getLast?
    = some (.unit ((List.range 192).map fun i => BitVec.ofNat 8 i)) := by decide +kernel
theorem test_drainCompletion : let s := done (.drainCompletion 0) boxDraining
    ((s.ports.record.get 0).length, (s.ports.record.get 0).getLast?, ((s.ring 0).half 1).state, posted s) = (3, some (.endMark 0 1 1), .free, [.ring 0]) := by
  decide +kernel
theorem test_stamp_wraps : (done .ringWriterSecondsExpiry { box with ringWriter := { box.ringWriter with stamp := 4294967295 } }).ringWriter.stamp = 0 := by
  decide +kernel

/-! ## Faults (R183 to R194) -/

theorem test_contain : let s := done (.contain hd 0) box
    ((s.out 0).delivery, (s.out 0).verdict, (s.out 0).fault.reason, posted s) = (.contained, some (.pass .freeView), some .request, [.output 0]) := by
  decide +kernel
theorem test_release : said (done (.release hd 0) box) = some (.refused .notContained)
    ∧ ((done (.release hd 0) (nextPeriod (done (.contain hd 0) box))).out 0).delivery = .live := by decide +kernel
theorem test_release_record : let s := nextPeriod (done (.contain hd 4) box)
    ((s.out 4).delivery, (s.out 4).verdict, ((done (.release hd 4) s).out 4).fault.reason, ((done (.release hd 4) s).out 4).delivery)
      = (.contained, some (.pass .metered), none, .live) ∧ ∀ k, ((s.ring 0).half k).state ≠ .draining := by decide +kernel
theorem test_clearFaults : said (done (.clearFaults hd 0 ⟨[], true⟩) box) = some (.refused .badArgument) := by decide +kernel
theorem test_faultPolicy : ((done (.faultPolicy hd 0 ⟨[.continuity], false⟩ ⟨[], false⟩ false) box).out 0).fault.mask = [.continuity] := by decide +kernel
theorem test_faultReport : said (done (.faultReport hd 0) box) = some (.data (.faultReport FaultBlock.afterReset)) := by decide +kernel

/-! ## Events at the ports and the clocks -/

/-- A lock report with an order number and a signal byte (R8). -/
def report (order signal : Nat) : BitVec 64 := BitVec.ofNat 64 (0x81 + 256 * order + 16777216 * signal)

theorem test_resetLine : let s := done .resetLine box
    (s.link.device, (s.tuner 4).order, (s.slot 2).generation, s.account.purse, (s.out 0).delivery) = (.unconfigured, 0, 12, 80, .off) := by decide +kernel
theorem test_lockReport : let s := done (.lockReport 3 (report 3 1)) box
    ((s.tuner 3).state, (s.warm 1).part.bind (·.signal), (s.warm 1).state) = (.locked, some .locked, .preparing) := by decide +kernel
theorem test_lockReport_stale : done (.lockReport 3 (report 2 1)) box = box := by decide +kernel
theorem test_lockTimer : ((done (.lockTimerExpiry 3) box).tuner 3).timer = some ⟨.retry, 2000⟩ := by decide +kernel
theorem test_retryTimer : let s := done (.retryTimerExpiry 4) box
    ((s.tuner 4).order, (s.ports.tuning.get 4).getLast?) = (0, some (.tune 0 ⟨700000, .q64⟩)) := by decide +kernel
/-- The copy of a cell for P0 from its input. -/
def forP0 (c : Cell) : Copy := .output 1 (.out 0) .video c .first

/-- The state after the next copy for P0 has been taken. -/
def takenAtP0 (c : Cell) (s : State) : State := done (.outputCellCopy ⟨1, .out 0⟩ .video c) s

theorem test_cellArrival : let s := done (.cellArrival 1 (cell 151 3)) box
    (s.filter.copies, (s.out 0).fault.status, (entryOf (s.table 1) 151).bind (·.expect)) = ([forP0 (cell 151 3)], [], some 4) := by
  decide +kernel
theorem test_cellArrival_break : let s := done (.cellArrival 1 (cell 151 5)) box
    ((s.out 0).fault.pointer, posted s, s.filter.copies.length) = (some .continuity, [.fault 0], 1) := by decide +kernel
theorem test_copy_clear : (takenAtP0 (cell 151 3) (waiting box [forP0 (cell 151 3)])).ports.presentation.get 0 = [cell 151 3]
    ∧ takenAtP0 (cell 151 3) box = box := by decide +kernel
theorem test_copy_order : let two := waiting box [forP0 (cell 151 3), forP0 (cell 152 9)]
    takenAtP0 (cell 152 9) two = two
      ∧ (takenAtP0 (cell 152 9) (takenAtP0 (cell 151 3) two)).ports.presentation.get 0 = [cell 151 3, cell 152 9] := by decide +kernel
theorem test_copy_turn : let odd := { cell 151 3 with scramble := .odd }
    let s := takenAtP0 odd (waiting box [forP0 odd])
    ((s.slot 0).parity, (s.slot 0).evenKey, (s.slot 0).oddKey, (s.ports.presentation.get 0).map (·.scramble)) = (some .odd, none, some 51, [.clear]) := by
  decide +kernel
/-- The box with the audio of P0 on its video label, and no odd key in its slot. -/
def boxTwoRoles : State := { box with
  filter := { box.filter with tables := vset boxTables 1 [⟨151, [.ctx (.out 0) .video, .ctx (.out 0) .audio], some 3⟩] }
  keys := { box.keys with slots := vset boxSlots 0 { box.slot 0 with oddKey := none } } }

/-- An odd cell in two roles of P0 has two copies; the first raises KEY GAP, and the other, after CLEAR FAULTS, raises nothing. -/
theorem test_keyGap_once : let odd := { cell 151 3 with scramble := .odd }
    let arrived := done (.cellArrival 1 odd) boxTwoRoles
    let one := takenAtP0 odd arrived
    let two := done (.outputCellCopy ⟨1, .out 0⟩ .audio odd) (done (.clearFaults hd 0 ⟨[.keyGap], false⟩) one)
    arrived.filter.copies = [forP0 odd, .output 1 (.out 0) .audio odd .later]
      ∧ ((one.out 0).fault.status, one.filter.copies) = ([.keyGap], [.output 1 (.out 0) .audio odd .raised])
      ∧ ((two.out 0).fault.status, two.filter.copies) = ([], []) := by decide +kernel
theorem test_copy_recorded : let s := done (.outputCellCopy ⟨2, .out 4⟩ .video (cell 401 3)) (waiting box [.output 2 (.out 4) .video (cell 401 3) .first])
    (((s.ring 0).half 0).count, ((s.ring 0).half 0).copy, s.ringWriter.memory.read 0, s.ringWriter.memory.read 4) = (1, some .once, some 2, some 5) := by
  decide +kernel

/-- A key message of version 41 with both keys. -/
def keyMsg : KeyMessage :=
  { serviceKeyId := 3, version := 41, accessClass := 30, event := 0, retain := true, evenKey := some 1, oddKey := some 2, agreesWith := [77] }

/-- The key cell that brings it on label 150. -/
def keyCell : Cell := { cell 150 0 with keyMessage := some keyMsg }

/-- The copy of a cell for the Key Unit from the input of T1. -/
def forKeys (c : Cell) : Copy := .key 1 (some ⟨400000, .q64⟩) [.out 0] c

/-- The box after the key cell has been taken. -/
def boxKeyed : State := done (.keyMessageCell 1 keyCell) (waiting box [forKeys keyCell])

theorem test_cellArrival_key : (done (.cellArrival 1 keyCell) box).filter.copies = [forKeys keyCell] := by decide +kernel
theorem test_keyMessage : boxKeyed.keys.engine = some ⟨0, 4, keyMsg⟩ ∧ boxKeyed.filter.copies = [] := by decide +kernel
theorem test_unwrap : let s := done .unwrapCompletion boxKeyed
    (s.keys.engine, (s.slot 0).lastVersion, (s.slot 0).state) = (none, some 41, .live) := by decide +kernel
theorem test_unwrap_refused : let s := done .unwrapCompletion { box with keys := { box.keys with engine := some ⟨0, 4, { keyMsg with accessClass := 31 }⟩ } }
    ((s.slot 0).mark, (s.slot 0).state, (s.slot 0).lastVersion) = (some .notEntitled, .live, some 40) := by decide +kernel

/-- An entitlement cell with a genuine message. -/
def messageCell (a : Address) (k : EntitlementKind) : Cell := { cell 17 0 with entitlement := some ⟨a, k, true⟩ }

/-- The box with the copy of an entitlement message on its way. -/
def boxMessage (a : Address) (k : EntitlementKind) : State := waiting box [.entitlement 0 (messageCell a k)]

/-- The box after an entitlement message has been taken. -/
def afterMessage (a : Address) (k : EntitlementKind) : State := done (.entitlementMessageCell 0 (messageCell a k)) (boxMessage a k)

theorem test_credit_wraps : let s := afterMessage .all (.credit 0 5)
    (s.account.purse, s.account.sequence, posted s) = (85, some 0, [.account]) := by decide +kernel
theorem test_group : (afterMessage (.group 6 20 20) (.revoke 30)).account.entitlements = [] ∧ afterMessage (.group 6 21 255) (.revoke 30) = box := by
  decide +kernel

/-- The box with the copy of a guide cell that completes a section on its way. -/
def boxSection (x : SectionBody) : State := waiting box [.guide 0 (guideCellOf x)]

/-- The box after a section has been completed. -/
def afterSection (x : SectionBody) : State := done (.guideCell 0 (guideCellOf x)) (boxSection x)

/-- The event ids of the pool after an EVENT BLOCK with an entry for an hour from a start on. -/
def poolAfter (start : Nat) : List Nat := (afterSection (.eventBlock 2 0 0 205 [entry 600 start])).guide.pool.map (·.event.eventId)

theorem test_guideCell_time : let s := afterSection (.time 3003000 60 none)
    (s.guide.time.utc, (s.out 4).current.map (·.eventId), (s.out 4).verdict, (s.out 2).hold, (s.out 2).stopAt) =
      (some 3003000, some 513, some (.pass .freeView), false, none) := by decide +kernel
theorem test_guideCell_event : poolAfter 3004400 = [512, 513, 600] ∧ poolAfter 3004399 = [512, 600] := by decide +kernel
theorem test_guideSecond : (done .guideSecondsExpiry { box with guide := { box.guide with time := ⟨some 3000000, 60, some ⟨3000001, 120⟩⟩ } }).guide.time
    = ⟨some 3000001, 120, none⟩ := by decide +kernel
theorem test_outputs_second : let s := done (.outputEnginesSecondsExpiry .stopAtFirst) box
    ((s.out 2).restSeconds, (s.out 4).silence, (s.out 0).silence, (s.out 3).restSeconds) = (9, 1, 1, 0) := by decide +kernel
theorem test_outputs_deepen : let s := done (.outputEnginesSecondsExpiry .deepeningFirst) (done (.outputEnginesSecondsExpiry .stopAtFirst) box)
    ((s.out 2).delivery, (s.out 2).restSeconds, (s.tuner 2).holders.length) = (.restDeep, 0, 2) := by decide +kernel
theorem test_lapse : let s := done .entitlementSecondsExpiry { box with guide := { box.guide with time := ⟨some 3500000, 60, none⟩ } }
    (s.account.entitlements, s.account.serviceKeys.length, posted s) = ([], 1, [.account]) := by decide +kernel

/-! ## The step and the queue -/

theorem test_step_front : step { box with pending := [.identify hd, .tuners hd] } = exec (.identify hd) { box with pending := [.tuners hd] } := rfl
theorem test_step_idle : ∃ t, step box = .next t ∧ (t.tuner 3).timer = some ⟨.lock, 699⟩ := ⟨_, rfl, by decide +kernel⟩
theorem test_no_bits : decodeTableWord 8 0x10 = none ∧ box.withFetchWord 8 0x10 = box := ⟨rfl, rfl⟩

/-! ## Witnesses: for every statement with hypotheses, a state and operands that meet them, clause by clause at the boundary values -/

/-- A command that goes on goes to `done`. -/
theorem goes (c : Instr) (s : State) (h : goesOn (exec c s) = true) : exec c s = .next (done c s) := by
  unfold done
  cases e : exec c s <;> simp_all [goesOn]

/-- The box with TUNE waiting. -/
def boxWaitingTune : State := { box with pending := [.tune hd 0 205, .identify hd] }

theorem witness_QueueAndIdleStep : box.pending = [] ∧ exec (.tune hd 0 205) box = .next (done (.tune hd 0 205) box) :=
  ⟨rfl, goes _ _ (by decide +kernel)⟩

theorem witness_NoStepStopsWhileUnitsAreWritten : UnitsWritten boxWaitingTune.toBlock := box_units

theorem witness_step : step boxWaitingTune = .next (done (.tune hd 0 205) { boxWaitingTune with pending := [.identify hd] }) :=
  goes (.tune hd 0 205) { boxWaitingTune with pending := [.identify hd] } (by decide +kernel)

/-- The box with two sections of a map of three gathered, and TUNE waiting. -/
def boxGathering : State :=
  { boxWaitingTune with guide := { boxGuide with pendingMap := some ⟨8, 2, [⟨0, [], []⟩, ⟨2, [], []⟩]⟩ } }

theorem witness_PendingMapsStayOrdered : MapOrdered boxGathering.toBlock ∧ ∃ t, step boxGathering = .next t :=
  ⟨fun m gathered => by obtain rfl := Option.some.inj gathered; decide,
    _, goes (.tune hd 0 205) { boxGathering with pending := [.identify hd] } (by decide +kernel)⟩

/-- The premises of every statement that an invariant is kept, at one state and for one step. -/
theorem witness_invariants : NoticesDistinct boxWaitingTune.toBlock ∧ PurseBounded boxWaitingTune.toBlock ∧ AccountBounded boxWaitingTune.toBlock
    ∧ PurchasesDistinct boxWaitingTune.toBlock ∧ ChargesInStep boxWaitingTune.toBlock ∧ RecallsDistinct boxWaitingTune.toBlock
    ∧ KeyQueueDistinct boxWaitingTune.toBlock ∧ SlotsConsistent boxWaitingTune.toBlock ∧ TunersConsistent boxWaitingTune.toBlock
    ∧ ProfilesBounded boxWaitingTune.toBlock ∧ RingsConsistent boxWaitingTune.toBlock ∧ BufferCanonical boxWaitingTune.toBlock
    ∧ TablesOrdered boxWaitingTune.toBlock ∧ PoolOrdered boxWaitingTune.toBlock ∧ DeliveryFollows boxWaitingTune.toBlock
    ∧ CurrentMatches boxWaitingTune.toBlock ∧ RunningHasGuide boxWaitingTune.toBlock ∧ Settled boxWaitingTune.toBlock
    ∧ PartWideOfHome boxWaitingTune.toBlock ∧ LiveIsReady boxWaitingTune.toBlock
    ∧ WarmFollows boxWaitingTune.toBlock :=
  ⟨box_notices, box_purse, box_account, box_purchases, box_charges, box_recalls, box_queue, box_slots, box_tuners, box_profiles, box_rings,
    box_memory, box_tables, box_pool, box_delivery, box_current, box_running, box_settled, box_partWide, box_live, box_warms⟩

theorem witness_ChangesArePosted : exec (.tune hd 0 205) box = .next (done (.tune hd 0 205) box) ∧ exec (.warm hd 1 0) box = .next (done (.warm hd 1 0) box)
    ∧ ((done (.tune hd 0 205) box).out 0).verdict ≠ (box.out 0).verdict ∧ ((done (.warm hd 1 0) box).warm 1).state ≠ (box.warm 1).state
    ∧ (∀ h, Instr.tune hd 0 205 ≠ .restart h) ∧ ∀ h, Instr.warm hd 1 0 ≠ .restart h :=
  ⟨goes _ _ (by decide +kernel), goes _ _ (by decide +kernel), by decide +kernel, by decide +kernel, nofun, nofun⟩

theorem witness_RunningLastsUntilTheResetLine : exec (.restart hd) box = .next (done (.restart hd) box) ∧ Instr.restart hd ≠ .resetLine
    ∧ box.link.device = .running ∧ box.guide.time.utc ≠ none ∧ box.guide.mapVersion ≠ none :=
  ⟨goes _ _ (by decide +kernel), by decide, rfl, by decide +kernel, by decide +kernel⟩

theorem witness_RestartKeepsTheSettings : (Heard hd box ∧ Heard hd State.reset) ∧ State.reset.guide.acquirer.state = .idle ∧ box.guide.acquirer.state ≠ .idle
    ∧ (done (.restart hd) box).guide.acquirer.tuner = some 0 := ⟨⟨⟨rfl, rfl⟩, rfl, rfl⟩, by decide +kernel⟩

theorem witness_StartUpStagesAreTaken : (stageNumber (.setLineup hd 1 100) = some 1 ∧ box.link.device = .running)
    ∧ (stageNumber (.setPolicy hd ⟨0, 0⟩ ⟨0, 0⟩ true) = some 4 ∧ (atStage 2).link.device ≠ .starting ∧ (atStage 2).link.device ≠ .running) := by decide +kernel
theorem test_stage_bounds :
    said (done (.setLineup hd 1 5000) State.reset) = some .ack ∧ said (done (.setLineup hd 0 5000) State.reset) = some (.refused .badArgument)
    ∧ said (done (.setLineup hd 1 5100) State.reset) = some (.refused .badArgument)
    ∧ said (done (.setHome hd 1002000 (some .q256) 8190 17) (atStage 1)) = some .ack
    ∧ said (done (.setHome hd 49999 (some .q256) 32 17) (atStage 1)) = some (.refused .badArgument) := by decide +kernel
/-- The device is in a stage, or the one before it. -/
theorem inOrder_of_stage (d : Device) (n : Nat) (h : d = .configuring n ∨ (1 ≤ n ∧ d = .configuring (n - 1))) : inOrder d n := .inr h
theorem witness_stage_orders : inOrder State.reset.link.device 1 ∧ inOrder (atStage 1).link.device 1 ∧ inOrder (atStage 1).link.device 2
    ∧ inOrder (atStage 2).link.device 3 ∧ inOrder (atStage 3).link.device 4 ∧ ¬ inOrder (atStage 2).link.device 4
    ∧ Heard hd State.reset ∧ (∀ n, Heard hd (atStage n)) ∧ wellSized (.setPolicy hd ⟨0, 0⟩ ⟨0, 0⟩ true) := by
  refine ⟨.inl (by decide), inOrder_of_stage _ _ (by decide), inOrder_of_stage _ _ (by decide), inOrder_of_stage _ _ (by decide),
    inOrder_of_stage _ _ (by decide), ?_, ⟨rfl, rfl⟩, fun _ => ⟨rfl, rfl⟩, fun h named => ?_⟩
  · unfold inOrder
    decide
  · obtain rfl : hd = h := Option.some.inj named
    rfl
theorem witness_fields : fieldInMemory ⟨0, 1024⟩ ∧ fieldInMemory ⟨6, 524288⟩ ∧ fieldInMemory ⟨5, 1024⟩ ∧ ¬ fieldInMemory ⟨8192, 1024⟩
    ∧ ¬ fieldInMemory ⟨8191, 1024⟩ ∧ fieldsApart (some ⟨0, 1024⟩) (some ⟨6, 1024⟩) ∧ ¬ fieldsApart (some ⟨0, 1024⟩) (some ⟨5, 1024⟩) := by
  simp [fieldInMemory, fieldsApart]

/-- The reset state at stage 4 with T0 ABSENT, or all of them. -/
def stageFour (absent : TunerId → Bool) : State :=
  { atStage 4 with pool := { State.reset.pool with
      tuners := Vector.ofFn fun t => { Tuner.afterPowerOn with state := if absent t then .absent else .free } } }

theorem witness_StartBeginsTheAcquirer : box.link.device = .running ∧ State.reset.link.device = .unconfigured ∧ (atStage 3).link.device = .configuring 3
    ∧ (stageFour fun t => t == 0).link.device = .configuring 4
    ∧ (∀ t, ((stageFour fun t => t == 0).tuner t).state = .free ∨ ((stageFour fun t => t == 0).tuner t).state = .absent)
    ∧ (stageFour fun t => t == 0).guide.acquirer = ⟨.idle, none⟩ ∧ (stageFour fun t => t == 0).link.home = some ⟨homeMux, 32, 17⟩
    ∧ ((stageFour fun t => t == 0).tuner 1).state = .free ∧ (∀ k, k < 1 → ((stageFour fun t => t == 0).tuner k).state = .absent)
    ∧ ∀ t, ((stageFour fun _ => true).tuner t).state = .absent := by decide +kernel

theorem witness_FramesReadBack : ([] : List Byte).length ≤ 512 ∧ (List.replicate 512 (0 : Byte)).length ≤ 512 := by decide +kernel

theorem witness_BadFramesAndTheManualsFrames : (0x55 : Byte) ≠ 0 ∧ (0x55 : Byte) ≠ 0xC3 ∧ 512 < (0x01 : Byte).toNat + 256 * (0x02 : Byte).toNat
    ∧ (1 ≤ 5 ∧ 5 < (frameBytes 0x10 0x05 []).length) ∧ (frameBytes 0x10 0x05 []).getLast? ≠ some 0x00
    ∧ readPeriod [0x55] = .bad .wrongStart ∧ box.link.periodSpent = false
    ∧ (done (.badFrame [0x55]) box).link.periodSpent = true ∧ ∀ r, readPeriod [0x00] ≠ .bad r :=
  ⟨by decide, by decide, by decide, by decide, by decide, by decide, rfl, rfl, fun r h => by cases (show PeriodContents.noRequest = .bad r from h)⟩

theorem witness_EveryRequestIsAnsweredOnce : requestHead (.identify hd) = some hd ∧ requestHead (.identify shortHd) = some shortHd ∧ shortHd.bodyFits = false
    ∧ (0x77 : Byte) ∉ requestKinds ∧ (0x10 : Byte) ∈ requestKinds ∧ box.link.periodSpent = false
    ∧ (done (.identify hd) box).link.periodSpent = true := by decide +kernel
/-- Every kind of event that the clauses of PeriodsCarryOneRequest tell apart. -/
theorem witness_PeriodsCarryOneRequest : (requestHead (.identify hd)).isSome = true ∧ readPeriod [0x55] = .bad .wrongStart ∧ (0x77 : Byte) ∉ requestKinds
    ∧ (nextPeriod (done (.identify hd) box)).link.periodSpent = false ∧ (done .resetLine (done (.identify hd) box)).link.periodSpent = false
    ∧ (requestHead .replyRead).isSome = false ∧ (done .replyRead (done (.identify hd) box)).link.periodSpent = true := by decide +kernel

theorem witness_RefusedRequestsChangeNothing : requestHead (.warm hd 0 1) = some hd ∧ box.link.periodSpent = false ∧ exec (.warm hd 0 1) box = .next (done (.warm hd 0 1) box)
    ∧ (done (.warm hd 0 1) box).link.slot = some { tag := hd.tag, body := .refused .unknownService } :=
  ⟨rfl, rfl, goes _ _ (by decide +kernel), by decide +kernel⟩

theorem witness_RepliesAreReadInTheirPeriod :
    let t := done .selectPeriodStart box
    let u := done (.identify hd) t
    exec .selectPeriodStart box = .next t ∧ exec .replyRead t = .next (done .replyRead t) ∧ exec (.identify hd) t = .next u
      ∧ exec .replyRead u = .next (done .replyRead u) ∧ requestHead (.identify hd) = some hd :=
  ⟨goes _ _ (by decide +kernel), goes _ _ (by decide +kernel), goes _ _ (by decide +kernel), goes _ _ (by decide +kernel), rfl⟩

/-- The box with P0 contained and its notice pending, in the select period after it. -/
def boxContained : State := nextPeriod (done (.contain hd 0) box)

theorem witness_NoticesAreMergedAndTaken : box.link.notices = [] ∧ boxContained.link.notices.map (·.key) = [.output 0] := by decide +kernel

theorem witness_IdentityTunersFilterAndKeysAnswer : Heard hd box ∧ TablesOrdered box.toBlock ∧ 7 = (7 : TunerId).val ∧ 7 < 8
    ∧ box.keys.retained.Nodup := ⟨⟨rfl, rfl⟩, box_tables, rfl, by decide, by decide +kernel⟩

/-- The box with other keys and codes. -/
def boxOther : State := { box with
  account := { box.account with serviceKeys := [⟨3, 78, 0, 4000000⟩] }
  profiles := Vector.ofFn fun p => { box.profile p with code := (box.profile p).code.map fun _ => code0000 } }

theorem witness_SecretsStayInside : exec (.keySlots hd) box = .next (done (.keySlots hd) box)
    ∧ exec (.serviceKeyList hd) boxOther = .next (done (.serviceKeyList hd) boxOther)
    ∧ exec (.getProfile hd 1) boxOther = .next (done (.getProfile hd 1) boxOther) :=
  ⟨goes _ _ (by decide +kernel), goes _ _ (by decide +kernel), goes _ _ (by decide +kernel)⟩

theorem witness_AccountAndGuideQueriesAnswer : State.reset.link.device ≠ .running ∧ box.link.device = .running
    ∧ (1 ≤ 1 ∧ 65535 ≤ 65535 ∧ 65535 < 65536 ∧ 31 ≤ 31 ∧ 31 < 32 ∧ 9999 ≤ 9999 ∧ 9999 < 10000)
    ∧ box.account.entitlements.filter (fun e => decide (1 ≤ e.cls)) ≠ [] ∧ box.purchases.drop 0 ≠ []
    ∧ box.guide.services.filter (fun x => decide (1 ≤ x.number)) ≠ []
    ∧ box.guide.service? 1 = none ∧ box.guide.service? 9999 = none ∧ box.guide.service? 205 ≠ none
    ∧ (∀ e ∈ box.guide.events 205, e.eventId ≠ 9) ∧ film ∈ box.guide.events 205 ∧ film.eventId = 512 ∧ film.onAir box.guide.time = true := by
  decide +kernel

theorem witness_LocalTimeFollowsTheOffset : State.reset.guide.time.utc = none ∧ box.guide.time.utc = some 3000000 := by decide +kernel

theorem witness_SeekAnswersByItsWalk : PoolOrdered State.reset.toBlock ∧ State.reset.link.device ≠ .running ∧ PoolOrdered box.toBlock
    ∧ box.link.device = .running ∧ ¬ seekAllowed { seekQ with limit := 0 } ∧ ¬ seekAllowed { seekQ with limit := 257 }
    ∧ seekAllowed { seekQ with service := 9999, limit := 256 } ∧ box.guide.service? 9999 = none ∧ seekAllowed { seekQ with limit := 1 }
    ∧ seekOrder seekQ (box.guide.events seekQ.service) = [film] ++ news :: [] ∧ ¬ seekFieldMatches seekQ film ∧ seekFieldMatches seekQ news
    ∧ [film].length < 2 ∧ [film].length = 1 ∧ ¬ seekFieldMatches { seekQ with value := 0 } news ∧ [film, news].length ≤ 2 := by
  refine ⟨by unfold PoolOrdered; decide +kernel, by decide +kernel, box_pool, ?_⟩
  simp only [seekAllowed, seekFieldMatches, seekQ]
  decide +kernel

theorem witness_StatusQueriesAnswer : Heard hd box ∧ (0 : OutId).val = (0 : PresId).val ∧ 4 ≤ (4 : OutId).val ∧ 6 ≤ 6 ∧ 8 ≤ 8 ∧ 3 < 4 :=
  ⟨⟨rfl, rfl⟩, by decide⟩

/-! ### Tuners -/

/-- The box with T5 ABSENT: every tuner present is in use. -/
def boxFull : State := { box with pool := { box.pool with tuners := vset boxTuners 5 { Tuner.afterPowerOn with state := .absent } } }

/-- A multiplex that no tuner is on. -/
def newMux : Mux := ⟨800000, .q64⟩

theorem witness_AllocationFollowsTheFourSteps : chooseTuner box.pool .primary ⟨600000, .q64⟩ = some (3, .share)
    ∧ chooseTuner box.pool .guide newMux = some (5, .free) ∧ chooseTuner boxFull.pool .primary newMux = some (0, .preempt)
    ∧ chooseTuner boxFull.pool .guide newMux = none := by decide +kernel

theorem witness_GrantsAndReleasesOrderTheTuner : TunersConsistent box.toBlock ∧ TunersConsistent boxFull.toBlock
    ∧ (box.toBlock.allocate (.ctx (.out 0)) .primary (some ⟨600000, .q64⟩) []).isSome = true
    ∧ (box.toBlock.allocate (.ctx (.out 0)) .primary (some newMux) []).isSome = true
    ∧ (boxFull.toBlock.allocate (.ctx (.out 0)) .primary (some newMux) []).isSome = true
    ∧ (box.tuner 2).holds (.ctx (.out 4)) = true ∧ (box.tuner 2).holders.filter (fun h => decide (h.who ≠ .ctx (.out 4))) ≠ []
    ∧ (box.tuner 1).holds (.ctx (.out 0)) = true ∧ (box.tuner 1).holders.filter (fun h => decide (h.who ≠ .ctx (.out 0))) = []
    ∧ box.guide.acquirer.state ≠ .waitTuner ∧ box.guide.acquirer.state ≠ .paused :=
  ⟨box_tuners, by unfold TunersConsistent; decide +kernel, by decide +kernel⟩

/-- The box with T0 and T5 ABSENT and the acquirer waiting: only the warm context of P1 can be evicted. -/
def boxWarmOnly : State := { box with
  pool := { box.pool with tuners := vset (vset boxTuners 5 { Tuner.afterPowerOn with state := .absent }) 0 { Tuner.afterPowerOn with state := .absent } }
  filter := { box.filter with tables := vset boxTables 0 [] }
  guide := { boxGuide with acquirer := ⟨.waitTuner, none⟩ } }

theorem witness_GrantsListTheLabels : TablesOrdered box.toBlock ∧ TablesOrdered boxFull.toBlock
    ∧ chooseTuner box.pool .primary ⟨600000, .q64⟩ = some (3, .share)
    ∧ (box.toBlock.allocate (.ctx (.out 0)) .primary (some ⟨600000, .q64⟩) [(151, .video)]).map (·.2.1) = some 3
    ∧ (box.tuner 3).holds (.ctx (.out 0)) = false ∧ (box.tuner 3).holds (.ctx (.warm 1)) = true
    ∧ (box.toBlock.allocate (.ctx (.warm 1)) .warm (some ⟨600000, .q64⟩) [(621, .video)]).map (·.2.1) = some 3
    ∧ chooseTuner box.pool .primary newMux = some (5, .free)
    ∧ (box.toBlock.allocate (.ctx (.out 0)) .primary (some newMux) [(151, .video)]).map (·.2.1) = some 5 :=
  ⟨box_tables, box_tables, by decide +kernel⟩
theorem witness_PreemptionEvictsTheHolders : TunersConsistent boxFull.toBlock ∧ TunersConsistent boxWarmOnly.toBlock
    ∧ chooseTuner boxFull.pool .primary newMux = some (0, .preempt) ∧ (boxFull.tuner 0).holds .acquirer = true
    ∧ (boxFull.toBlock.allocate (.ctx (.out 0)) .primary (some newMux) [(151, .video)]).map (·.2.1) = some 0
    ∧ chooseTuner boxWarmOnly.pool .primary newMux = some (3, .preempt) ∧ (boxWarmOnly.tuner 3).holds (.ctx (.warm 1)) = true
    ∧ (boxWarmOnly.toBlock.allocate (.ctx (.out 0)) .primary (some newMux) [(151, .video)]).map (·.2.1) = some 3
    ∧ (boxWarmOnly.warm 1).part.bind (·.slot) = some ⟨1, 9⟩ ∧ (boxWarmOnly.warm 1).state ≠ .cold :=
  ⟨by unfold TunersConsistent; decide +kernel, by unfold TunersConsistent; decide +kernel, by decide +kernel⟩

/-- A Key Unit without a FREE slot: all are RETAINED but K0, and K5 came first. -/
def fullUnit : KeyUnit := { box.keys with
  retained := [5, 4]
  slots := Vector.ofFn fun k => if k = 0 then box.slot 0 else { KeySlot.freed 65535 with state := .retained, tag := some ⟨40, k.val⟩ } }

theorem witness_SlotsAreGivenByTag :
    ((box.slot 0).state = .live ∧ (box.slot 0).tag = some ⟨12, 150⟩ ∧ ∀ j : SlotId, ¬ j < 0)
    ∧ ((box.slot 3).state = .retained ∧ (box.slot 3).tag = some ⟨31, 640⟩ ∧ ∀ j : SlotId, j ≠ 3 → (box.slot j).tag ≠ some ⟨31, 640⟩)
    ∧ ((∀ j : SlotId, (box.slot j).tag ≠ some ⟨9, 9⟩) ∧ (box.slot 4).state = .free ∧ ∀ j : SlotId, j < 4 → (box.slot j).state ≠ .free)
    ∧ (∀ j : SlotId, (fullUnit.slots.get j).tag ≠ some ⟨9, 9⟩ ∧ (fullUnit.slots.get j).state ≠ .free) ∧ fullUnit.retained = [5, 4]
    ∧ (fullUnit.obtain (.out 1) ⟨9, 9⟩).2 = some ⟨5, 0⟩ := by decide +kernel
theorem witness_SlotsAreLeft : .out 1 ∉ (box.slot 0).users
    ∧ ((box.keys.obtain (.out 1) ⟨12, 150⟩).1.slots.get 0).users = [.out 0, .out 1]
    ∧ ((box.slot 0).users = [.out 0] ∧ box.keys.retention = true ∧ (box.slot 0).retain = true)
    ∧ ((box.slot 1).users = [.warm 1] ∧ (box.slot 1).retain = false)
    ∧ (box.keys.leave (.out 0) 0).retained = [3, 0] := by decide +kernel

theorem witness_LockReportsAndTimersActByState : TunersConsistent box.toBlock ∧ CurrentMatches box.toBlock
    ∧ reportSays (report 3 1) = some ((box.tuner 3).order, true) ∧ (box.tuner 3).state = .tuning
    ∧ reportSays (report 65535 1) = some ((box.tuner 4).order, true) ∧ (box.tuner 4).state = .retry ∧ (box.tuner 4).mux = some ⟨700000, .q64⟩
    ∧ reportSays (report 2 0) = some ((box.tuner 1).order, false) ∧ (box.tuner 1).state = .locked
    ∧ reportSays (report 3 2) = none ∧ reportSays (BitVec.ofNat 64 0x80) = none ∧ (box.tuner 5).state = .free ∧ (box.tuner 6).state = .absent
    ∧ ({ who := .ctx (.out 0), cls := .primary } : Holder) ∈ (box.tuner 1).holders ∧ (box.out 0).part ≠ none
    ∧ (∀ h ∈ (box.tuner 1).holders, h.who ≠ .ctx (.out 1)) ∧ FaultClass.signalLoss ∉ (box.out 0).fault.mask :=
  ⟨box_tuners, box_current, by decide +kernel⟩

/-- The box with the slot of P1's warm context LIVE. -/
def boxKeysReady : State := { box with keys := { box.keys with slots := vset boxSlots 1 { box.slot 1 with state := .live } } }

theorem witness_WarmContextsFollowTheLock : exec (.lockReport 3 (report 3 1)) box = .next (done (.lockReport 3 (report 3 1)) box)
    ∧ exec (.lockReport 2 (report 2 0)) box = .next (done (.lockReport 2 (report 2 0)) box)
    ∧ exec (.lockTimerExpiry 3) box = .next (done (.lockTimerExpiry 3) box)
    ∧ reportSays (report 3 1) = some ((box.tuner 3).order, true) ∧ (box.tuner 3).state = .tuning
    ∧ (box.tuner 3).holds (.ctx (.warm 1)) = true ∧ (box.warm 1).part ≠ none ∧ (box.warm 1).state = .preparing
    ∧ (box.slot 1).state = .await ∧ (boxKeysReady.slot 1).state = .live ∧ (box.warm 1).part.bind (·.slot) = some ⟨1, 9⟩
    ∧ reportSays (report 2 0) = some ((box.tuner 2).order, false) ∧ (box.tuner 2).state = .locked
    ∧ (box.tuner 2).holds (.ctx (.warm 0)) = true ∧ (box.warm 0).part ≠ none ∧ (box.warm 0).state = .ready
    ∧ (box.tuner 3).timer.map (·.kind) = some .lock ∧ (box.tuner 3).holds (.ctx (.warm 0)) = false ∧ (box.warm 2).part = none :=
  ⟨goes _ _ (by decide +kernel), goes _ _ (by decide +kernel), goes _ _ (by decide +kernel), by decide +kernel⟩

/-- The box with T0 TUNING for the acquirer. -/
def boxSeeking : State := { box with
  pool := { box.pool with tuners := vset boxTuners 0 { box.tuner 0 with state := .tuning, timer := some ⟨.lock, 100⟩ } }
  guide := { boxGuide with acquirer := ⟨.tuning, some 0⟩ } }

/-- The box with T3 TUNING on the home multiplex and the acquirer waiting for a tuner. -/
def boxHoping : State := { boxWarmOnly with
  pool := { box.pool with tuners := vset boxWarmOnly.pool.tuners 3 { box.tuner 3 with mux := some homeMux } } }

theorem witness_AcquirerFollowsTheLock :
    exec (.lockReport 0 (report 2 1)) boxSeeking = .next (done (.lockReport 0 (report 2 1)) boxSeeking)
    ∧ exec (.lockReport 3 (report 3 1)) boxHoping = .next (done (.lockReport 3 (report 3 1)) boxHoping)
    ∧ exec (.lockReport 0 (report 2 0)) box = .next (done (.lockReport 0 (report 2 0)) box)
    ∧ reportSays (report 2 1) = some ((boxSeeking.tuner 0).order, true) ∧ (boxSeeking.tuner 0).state = .tuning
    ∧ (boxSeeking.tuner 0).holds .acquirer = true ∧ boxSeeking.guide.acquirer.state = .tuning
    ∧ reportSays (report 3 1) = some ((boxHoping.tuner 3).order, true) ∧ (boxHoping.tuner 3).state = .tuning
    ∧ boxHoping.guide.acquirer.state = .waitTuner ∧ (boxHoping.tuner 3).mux = boxHoping.link.home.map (·.mux) ∧ (boxHoping.tuner 3).inUse = true
    ∧ (∀ j : TunerId, j < 3 → ¬ ((boxHoping.tuner j).inUse = true ∧ (boxHoping.tuner j).mux = boxHoping.link.home.map (·.mux)))
    ∧ reportSays (report 2 0) = some ((box.tuner 0).order, false) ∧ (box.tuner 0).state = .locked ∧ box.guide.acquirer.state = .collecting
    ∧ box.link.home = some ⟨homeMux, 32, 17⟩ :=
  ⟨goes _ _ (by decide +kernel), goes _ _ (by decide +kernel), goes _ _ (by decide +kernel), by decide +kernel⟩

/-! ### Channel change -/

/-- P1 of the box without its tuner. -/
def untunedOutput : Output :=
  awake (partRec (serviceRec 412 44 701 (some 700) 0) none none none) none (.held .noSignal) (.held .noSignal)

/-- The box with a service whose multiplex index names nothing, and with P1 without its tuner. -/
def boxLost : State := { box with
  guide := { boxGuide with services := boxGuide.services ++ [serviceRec 500 63 901 none 0] }
  pool := { box.pool with tuners := vset boxTuners 4 Tuner.afterPowerOn }
  filter := { box.filter with tables := vset boxTables 4 [] }
  keys := { box.keys with slots := vset boxSlots 2 (KeySlot.freed 12) }
  engines := { box.engines with outputs := vset boxOutputs 1 untunedOutput } }

theorem lost_settled : Settled boxLost.toBlock := settled_of _ (by decide +kernel)

/-- The box with an empty service table. -/
def boxGone : State := { box with guide := { boxGuide with services := [] } }

theorem witness_TuneTakesUpTheService : State.reset.link.device ≠ .running ∧ box.link.device = .running ∧ (4 ≤ 4 ∧ 9999 < 10000)
    ∧ box.guide.service? 1 = none ∧ box.guide.service? 9999 = none
    ∧ ((box.out 0).part.map (·.service) = some 101 ∧ (box.out 0).restLevel = .awake ∧ (box.out 0).part.bind (·.tuner) ≠ none)
    ∧ ((box.out 2).part.map (·.service) = some 205 ∧ (box.out 2).restLevel ≠ .awake)
    ∧ (box.guide.service? 412 ≠ none ∧ (box.out 0).part.map (·.service) ≠ some 412 ∧ (box.warm 0).part.map (·.service) ≠ some 412
        ∧ box.guide.mux? 44 = some ⟨700000, .q64⟩ ∧ chooseTuner box.pool .primary ⟨700000, .q64⟩ = some (4, .share))
    ∧ (boxLost.guide.service? 500 ≠ none ∧ (boxLost.out 0).part.map (·.service) ≠ some 500 ∧ boxLost.guide.mux? 63 = none)
    ∧ ((boxLost.out 1).part.map (·.service) = some 412 ∧ (boxLost.out 1).restLevel = .awake ∧ (boxLost.out 1).part.bind (·.tuner) = none
        ∧ chooseTuner boxLost.pool .primary ⟨700000, .q64⟩ = some (4, .free)) := by decide +kernel

/-- The box without service 101, which P0 shows. -/
def boxForgotten : State := { box with guide := { boxGuide with services := boxGuide.services.drop 1 } }

theorem witness_TuneExchanges_forgotten : boxForgotten.link.device = .running ∧ boxForgotten.guide.service? 205 ≠ none
    ∧ boxForgotten.guide.service? 101 = none ∧ (boxForgotten.warm 0).state = .ready ∧ (boxForgotten.warm 0).part.map (·.service) = some 205
    ∧ (boxForgotten.out 0).part.map (·.service) = some 101 ∧ (boxForgotten.out 0).part.bind (·.slot) = some ⟨0, 4⟩
    ∧ ((done (.tune hd 0 205) boxForgotten).slot 0).state = .retained := by decide +kernel

theorem witness_TuneExchangesWithTheWarmContext : box.link.device = .running ∧ box.guide.service? 205 ≠ none
    ∧ (box.warm 0).part = some (partRec (serviceRec 205 20 401 none 0) (some 2) (some .locked) none) ∧ (box.warm 0).state = .ready
    ∧ (box.out 0).part.map (·.service) = some 101 ∧ (box.out 0).part.bind (·.tuner) ≠ none ∧ box.guide.service? 101 ≠ none
    ∧ (boxLost.warm 1).part.map (·.service) = some 330 ∧ (boxLost.warm 1).state = .preparing ∧ (boxLost.out 1).part.bind (·.tuner) = none := by
  decide +kernel

theorem witness_WarmPreparesAService : TunersConsistent State.reset.toBlock ∧ TunersConsistent box.toBlock ∧ State.reset.link.device ≠ .running
    ∧ box.link.device = .running ∧ (4 ≤ 4 ∧ 9999 < 10000 ∧ 9999 ≤ 9999) ∧ (box.out 0).part.map (·.service) = some 101
    ∧ (box.warm 2).state = .empty ∧ (box.warm 0).state ≠ .empty ∧ box.guide.service? 9999 = none
    ∧ (box.warm 0).part.map (·.service) = some 205 ∧ (box.warm 0).state = .ready
    ∧ (box.guide.service? 330 ≠ none ∧ box.guide.mux? 31 = some ⟨600000, .q64⟩ ∧ chooseTuner box.pool .warm ⟨600000, .q64⟩ = some (3, .share))
    ∧ (boxLost.guide.service? 500 ≠ none ∧ boxLost.guide.mux? 63 = none) :=
  ⟨by unfold TunersConsistent; decide +kernel, box_tuners, by decide +kernel⟩
theorem witness_WarmPreparesAService_lost : TunersConsistent boxLost.toBlock ∧ SlotsConsistent boxLost.toBlock ∧ boxLost.link.device = .running :=
  ⟨by unfold TunersConsistent; decide +kernel, by unfold SlotsConsistent; decide +kernel, rfl⟩

theorem witness_AudioAndBindAreTaken : TablesOrdered box.toBlock ∧ 6 ≤ 6 ∧ 3 < 4 ∧ 3 ≤ 3 ∧ (box.out 5).delivery = .off ∧ (box.out 3).delivery = .restDeep
    ∧ (box.out 0).delivery ≠ .off ∧ (box.out 0).delivery ≠ .restDeep ∧ (box.out 0).part.map (·.audioIndex) = some 0
    ∧ boxGone.guide.service? 101 = none ∧ (box.guide.service? 101).bind (fun x => x.audios[2]?) = none
    ∧ (box.guide.service? 101).bind (fun x => x.audios[1]?) ≠ none ∧ (box.out 0).part.bind (·.tuner) = some 1
    ∧ 4 ≤ 4 ∧ 8 ≤ 8 ∧ box.boundProfile 0 = 0 ∧ box.boundProfile 0 ≠ 7 :=
  ⟨box_tables, by decide +kernel⟩

theorem contained_delivery : DeliveryFollows boxContained.toBlock := by
  intro o
  match o with
  | 0 => exact ⟨by decide, (rfl : (boxContained.out 0).delivery = .contained)⟩
  | 1 => exact box_delivery 1
  | 2 => exact box_delivery 2
  | 3 => exact box_delivery 3
  | 4 => exact box_delivery 4
  | 5 => exact box_delivery 5

theorem reset_delivery : DeliveryFollows State.reset.toBlock := by
  intro o
  match o with
  | 0 | 1 | 2 | 3 | 4 | 5 => exact ⟨rfl, rfl, rfl⟩

theorem witness_StopAtAndRestAreTaken : DeliveryFollows State.reset.toBlock ∧ DeliveryFollows box.toBlock ∧ DeliveryFollows boxContained.toBlock ∧ 4 ≤ 4
    ∧ (State.reset.out 0).delivery = .off ∧ (boxContained.out 0).delivery = .contained ∧ (box.out 0).delivery = .live
    ∧ (box.out 2).delivery = .restLight ∧ (box.out 3).delivery = .restDeep ∧ box.guide.time.utc = some 3000000 ∧ 3000000 ≤ 3000000
    ∧ ¬ 3000001 ≤ 3000000 ∧ spanLength box.engines.deepThreshold ≤ spanLength ⟨10, 2⟩ ∧ ¬ spanLength box.engines.deepThreshold ≤ spanLength ⟨9, 2⟩ :=
  ⟨reset_delivery, box_delivery, contained_delivery, by decide +kernel⟩

/-- The box with service 205 on a multiplex index that names nothing. -/
def boxMoved : State := { box with guide := { boxGuide with services := [serviceRec 205 63 401 none 0] } }

theorem witness_WakeAndCloseAreTaken : (box.out 0).restLevel = .awake ∧ (box.out 2).restLevel = .light ∧ (box.out 3).restLevel = .deep
    ∧ ({ box with link := { box.link with device := .starting } } : State).link.device ≠ .running ∧ box.link.device = .running
    ∧ (box.out 3).part.map (·.service) = some 205 ∧ boxGone.guide.service? 205 = none ∧ boxMoved.guide.service? 205 ≠ none
    ∧ boxMoved.guide.mux? 63 = none ∧ box.guide.service? 205 ≠ none ∧ box.guide.mux? 20 = some ⟨500000, .q64⟩
    ∧ chooseTuner box.pool .primary ⟨500000, .q64⟩ = some (2, .share)
    ∧ (boxContained.out 0).delivery = .contained ∧ (State.reset.out 0).delivery = .off ∧ (box.out 0).delivery = .live := by decide +kernel

/-! ### Cells, keys and recording -/

theorem witness_CellsAreDroppedOrRouted : TablesOrdered box.toBlock ∧ (cell 8191 0).label = 8191 ∧ (box.tuner 3).state ≠ .locked
    ∧ (∀ e ∈ box.table 1, e.label ≠ (cell 999 0).label) ∧ (cell 151 0).label ≠ 8191 ∧ (cell 151 0).scramble ≠ .reserved
    ∧ (box.tuner 1).state = .locked ∧ (⟨151, [.ctx (.out 0) .video], some 3⟩ : LabelEntry) ∈ box.table 1
    ∧ (⟨150, [.ctx (.out 0) .key], none⟩ : LabelEntry) ∈ box.table 1 ∧ FaultClass.continuity ∉ (box.out 0).fault.mask :=
  ⟨box_tables, by decide +kernel⟩

/-- The box with K0 changed. -/
def boxSlot (x : KeySlot) : State := { box with keys := { box.keys with slots := vset boxSlots 0 x } }

theorem witness_CopiesReachTheScreen (c : Cell) : NextCopy (waiting box [forP0 c]) (forP0 c)
    ∧ NextCopy (waiting box [.output 2 (.warm 0) .audio c .first]) (.output 2 (.warm 0) .audio c .first)
    ∧ NextCopy (waiting box [.output 4 (.out 1) .video c .first]) (.output 4 (.out 1) .video c .first)
    ∧ NextCopy (waiting box [.output 2 (.out 5) .video c .first]) (.output 2 (.out 5) .video c .first)
    ∧ NextCopy (waiting (boxSlot { box.slot 0 with oddKey := none }) [forP0 c]) (forP0 c)
    ∧ NextCopy (waiting (boxSlot { box.slot 0 with state := .await }) [forP0 c]) (forP0 c)
    ∧ NextCopy (waiting (boxSlot { box.slot 0 with oddKey := none }) [.output 1 (.out 0) .audio c .raised]) (.output 1 (.out 0) .audio c .raised)
    ∧ (box.out 1).delivery ≠ .live ∧ (box.out 5).part = none ∧ Role.video ≠ .key ∧ (box.out 0).delivery = .live
    ∧ (box.out 0).part.bind (·.slot) = some ⟨0, 4⟩ ∧ (box.slot 0).state = .live ∧ (box.slot 0).evenKey = some 50 ∧ (box.slot 0).oddKey = some 51
    ∧ ((boxSlot { box.slot 0 with oddKey := none }).slot 0).oddKey = none ∧ ((boxSlot { box.slot 0 with state := .await }).slot 0).state ≠ .live
    ∧ FaultClass.keyGap ∉ (box.out 0).fault.mask ∧ (box.out 2).part.map (·.slot) = some none := by
  refine ⟨first_is_next _ _ _, first_is_next _ _ _, first_is_next _ _ _, first_is_next _ _ _, first_is_next _ _ _, first_is_next _ _ _, first_is_next _ _ _, ?_⟩
  decide +kernel
theorem witness_not_next : ¬ NextCopy box (forP0 (cell 151 3)) := by
  rintro ⟨before, rest, copies, -⟩
  simp [show box.filter.copies = [] from rfl] at copies
theorem witness_not_next_of_two (c : Cell) (h : c ≠ cell 151 3) : ¬ NextCopy (waiting box [forP0 (cell 151 3), forP0 c]) (forP0 c) := by
  rintro ⟨before, rest, copies, free⟩
  cases before with
  | nil => exact h (by injection copies with first _; injection first with _ _ _ same _; exact same.symm)
  | cons y l => 
    injection copies with first _
    exact free y (by simp) (first ▸ ⟨rfl, rfl⟩)

/-- The box with the ring of R0 changed. -/
def boxWith (x : Ring) : State := { box with ringWriter := { box.ringWriter with rings := #v[x, Ring.cleared none] } }

/-- Half 0 one cell short of its capacity. -/
def nearlyFull : Half := { state := .filling, count := 1023, copy := some .free, first := some 1, last := some 2 }

/-- The copy of a cell for R0 from its input. -/
def forR0 (c : Cell) : Copy := .output 2 (.out 4) .video c .first

/-- A ring of R0 that the next cell fills, with its other half FREE. -/
def fillingRing : Ring := (boxRing.setHalf 0 nearlyFull).setHalf 1 Half.freed

theorem witness_RecordedCellsAreStoredOrDiscarded (x : Ring) (c : Cell) : NextCopy (waiting (boxWith x) [forR0 c]) (forR0 c)
    ∧ BufferCanonical (waiting (boxWith x) [forR0 c]).toBlock ∧ ((boxWith x).out 4).part ≠ none ∧ ((boxWith x).out 4).delivery = .live
    ∧ (boxRing.field = some ⟨0, 1024⟩ ∧ boxRing.writer = .writing 0 ∧ (boxRing.half 0).count + 1 ≠ 1024)
    ∧ (fillingRing.half 0 = nearlyFull ∧ nearlyFull.count + 1 = 1024 ∧ fillingRing.writer = .writing 0 ∧ (fillingRing.half 1).state = .free)
    ∧ ((boxRing.setHalf 0 nearlyFull).half 1).state ≠ .free ∧ FaultClass.ringOverrun ∉ (box.out 4).fault.mask
    ∧ ((boxWith { boxRing with writer := .waiting none false }).ring 0).writer = .waiting none false
    ∧ ((boxWith { boxRing with writer := .waiting (some 1) true }).ring 0).writer = .waiting (some 1) true := by
  refine ⟨first_is_next _ _ _, box_memory, ?_, rfl, ?_⟩
  · exact nofun
  · decide +kernel
theorem witness_passes : ∀ p, (box.out 4).part = some p → passes box p (cell 401 3) (cell 401 3) := fun _ _ => .inl ⟨rfl, rfl⟩
theorem witness_passes_deciphered (p : ServicePart) (h : (box.out 0).part = some p) : passes box p { cell 151 3 with scramble := .odd }
    { cell 151 3 with scramble := .clear, image := Config.decipher 51 (cell 151 3).image } := by
  cases h
  exact .inr ⟨⟨0, 4⟩, 51, rfl, rfl, .inr ⟨rfl, rfl⟩, rfl⟩

/-- The box with a slot K0 and R0 on it. -/
def boxScrambledR0 (x : KeySlot) : State := { boxSlot x with
  engines := { box.engines with outputs := vset boxOutputs 4 { box.out 4 with
    part := some { partRec (serviceRec 205 20 401 (some 150) 0) (some 2) (some .locked) (some ⟨0, 4⟩) with muxIndex := 12 } } } }

theorem witness_UnpassedCellsAreNotStored (c : Cell) (x : KeySlot) :
    NextCopy (waiting box [forR0 c]) (forR0 c) ∧ NextCopy (waiting (boxScrambledR0 x) [forR0 c]) (forR0 c)
    ∧ NextCopy (waiting (boxScrambledR0 x) [.output 2 (.out 4) .audio c .raised]) (.output 2 (.out 4) .audio c .raised)
    ∧ (box.out 4).part.map (·.slot) = some none ∧ (box.out 4).delivery = .live ∧ ((boxScrambledR0 x).out 4).delivery = .live
    ∧ ((boxScrambledR0 x).out 4).part.bind (·.slot) = some ⟨0, 4⟩ ∧ (boxScrambledR0 x).slot 0 = x
    ∧ ({ box.slot 0 with state := .await } : KeySlot).state ≠ .live ∧ (box.slot 0).state = .live ∧ ({ box.slot 0 with oddKey := none } : KeySlot).oddKey = none
    ∧ FaultClass.keyGap ∉ ((boxScrambledR0 x).out 4).fault.mask ∧ Role.video ≠ .key :=
  ⟨first_is_next _ _ _, first_is_next _ _ _, first_is_next _ _ _, by decide +kernel, rfl, rfl, rfl, rfl, by decide, by decide +kernel, rfl, nofun,
    nofun⟩
theorem test_unpassed : let odd : Cell := { cell 401 3 with scramble := .odd }
    let s := done (.outputCellCopy ⟨2, .out 4⟩ .video odd) (waiting (boxScrambledR0 { box.slot 0 with oddKey := none }) [forR0 odd])
    ((s.out 4).fault.pointer, ((s.ring 0).half 0).count, posted s) = (some .keyGap, 0, [.fault 4]) := by decide +kernel

theorem witness_RecordedCellsAreStored_turned (c : Cell) : NextCopy (waiting (boxScrambledR0 (box.slot 0)) [forR0 c]) (forR0 c)
    ∧ BufferCanonical (waiting (boxScrambledR0 (box.slot 0)) [forR0 c]).toBlock ∧ ((boxScrambledR0 (box.slot 0)).ring 0).writer = .writing 0
    ∧ (∀ p, ((boxScrambledR0 (box.slot 0)).out 4).part = some p → passes (boxScrambledR0 (box.slot 0)) p { cell 402 3 with scramble := .odd }
        { cell 402 3 with scramble := .clear, image := Config.decipher 51 (cell 402 3).image } ∧ p.audioLabel = 402)
    ∧ (box.slot 0).parity = some .even ∧ (box.slot 0).evenKey = some 50 := by
  refine ⟨first_is_next _ _ _, box_memory, rfl, fun p at_ => ?_, rfl, rfl⟩
  cases at_
  exact ⟨.inr ⟨⟨0, 4⟩, 51, rfl, rfl, .inr ⟨rfl, rfl⟩, rfl⟩, rfl⟩
theorem test_stored_turned : let odd : Cell := { cell 402 3 with scramble := .odd }
    let s := done (.outputCellCopy ⟨2, .out 4⟩ .audio odd) (waiting (boxScrambledR0 (box.slot 0)) [.output 2 (.out 4) .audio odd .first])
    (((s.ring 0).half 0).count, (s.slot 0).parity, (s.slot 0).evenKey, (s.slot 0).oddKey) = (1, some .odd, none, some 51) := by decide +kernel

/-- The box with the engine busy for K1 and an entry for K0 in the queue. -/
def boxBusy : State := { box with keys := { box.keys with
  engine := some ⟨1, 9, { keyMsg with version := 6 }⟩, queue := [⟨0, 4, { keyMsg with version := 41 }, 6⟩] } }

/-- The same with the engine idle. -/
def boxQueued : State := { boxBusy with keys := { boxBusy.keys with engine := none } }

theorem keyCell_brings : bringsKeyMessage keyCell keyMsg := by unfold bringsKeyMessage; decide
theorem witness_KeyMessagesAreQueued : NextCopy (waiting box [forKeys (cell 150 0)]) (forKeys (cell 150 0)) ∧ (∀ m, ¬ bringsKeyMessage (cell 150 0) m)
    ∧ NextCopy (waiting boxBusy [forKeys keyCell]) (forKeys keyCell) ∧ bringsKeyMessage keyCell keyMsg
    ∧ boxBusy.keys.engine = some ⟨1, 9, { keyMsg with version := 6 }⟩ ∧ KeyQueueDistinct boxBusy.toBlock ∧ TablesOrdered boxBusy.toBlock :=
  ⟨first_is_next _ _ _, fun _ brings => (nomatch brings.2.2.1), first_is_next _ _ _, keyCell_brings, rfl, by unfold KeyQueueDistinct; decide +kernel,
    box_tables⟩
theorem user_lists : ∃ u ∈ (box.slot 0).users, ∃ e ∈ box.table 1, e.label = 150 ∧ Dest.ctx u .key ∈ e.dests := by decide +kernel
theorem witness_slotTakes : slotTakes boxBusy 1 150 keyMsg 0 := by
  refine ⟨user_lists, by decide +kernel, fun w flight at0 => ?_⟩
  obtain rfl : (⟨1, 9, { keyMsg with version := 6 }⟩ : Unwrap) = w := Option.some.inj flight
  exact absurd at0 (by decide)
theorem witness_KeyMessagesAreQueued_idle : NextCopy (waiting box [forKeys keyCell]) (forKeys keyCell) ∧ box.keys.engine = none
    ∧ box.keys.queue = [] ∧ slotTakes box 1 150 keyMsg 0 ∧ ∀ j : SlotId, ¬ j < 0 :=
  ⟨first_is_next _ _ _, rfl, rfl, ⟨user_lists, by decide +kernel, nofun⟩, by decide⟩

/-- What is asked of a block for the users of a slot in AWAIT to be told of. -/
theorem witness_slotUsersTold : CurrentMatches boxQueued.toBlock ∧ OnTheirSlots boxQueued.toBlock ∧ WarmFollows boxQueued.toBlock
    ∧ (box.slot 2).state = .await ∧ .out 1 ∈ (box.slot 2).users ∧ .out 0 ∉ (box.slot 2).users ∧ (box.slot 0).state ≠ .await :=
  ⟨box_current, box_settled.2.1, box_warms, by decide +kernel⟩

theorem witness_ArbiterServesKeyingOutputsFirst : boxBusy.keys.engine ≠ none ∧ box.keys.queue = [] ∧ boxQueued.keys.engine = none
    ∧ boxQueued.keys.queue ≠ [] := by decide +kernel

/-- The box with an unwrap in flight for K1, in UNWRAP. -/
def boxUnwrap (m : KeyMessage) (generation : Nat) : State :=
  { box with keys := { box.keys with engine := some ⟨1, generation, m⟩, slots := vset boxSlots 1 { box.slot 1 with state := .unwrap } } }

/-- The same with a newer message for K1 in the queue. -/
def boxNewer : State :=
  { boxUnwrap keyMsg 9 with keys := { (boxUnwrap keyMsg 9).keys with queue := [⟨1, 9, { keyMsg with version := 42 }, 6⟩] } }

theorem witness_UnwrapsComplete : box.keys.engine = none ∧ (boxUnwrap keyMsg 9).keys.engine = some ⟨1, 9, keyMsg⟩
    ∧ (boxUnwrap keyMsg 9).keys.queue = [] ∧ ((boxUnwrap keyMsg 9).slot 1).generation = 9 ∧ ((boxUnwrap keyMsg 9).slot 1).state = .unwrap
    ∧ ((boxUnwrap keyMsg 8).slot 1).generation ≠ 8 ∧ boxNewer.keys.engine = some ⟨1, 9, keyMsg⟩ := by decide +kernel
/-- The same with T3 LOCKED, so that the warm context of P1 waits for its keys alone. -/
def boxKeysOnly : State := { boxNewer with
  pool := { box.pool with tuners := vset boxTuners 3 { box.tuner 3 with state := .locked, timer := none } }
  engines := { box.engines with
    warms := vset box.engines.warms 1 { state := .preparing, part := some (partRec (serviceRec 330 31 621 (some 620) 0) (some 3) (some .locked) (some ⟨1, 9⟩)) } } }

theorem keysOnly_warms : WarmFollows boxKeysOnly.toBlock := by
  intro w
  match w with
  | 0 => exact ⟨nofun, fun _ _ => rfl, fun _ unready => absurd ⟨rfl, .inl rfl⟩ unready⟩
  | 1 =>
    refine ⟨nofun, fun _ (ready : partReady _ _) => ?_, fun _ _ => rfl⟩
    obtain clear | ⟨r, at_, live⟩ := ready.2
    · exact nomatch clear
    · obtain rfl : (⟨1, 9⟩ : SlotRef) = r := Option.some.inj at_
      exact absurd live (by decide +kernel)
  | 2 => exact rfl
  | 3 => exact rfl
theorem witness_UnwrapsComplete_told : OnTheirSlots boxKeysOnly.toBlock ∧ WarmFollows boxKeysOnly.toBlock ∧ CurrentMatches boxKeysOnly.toBlock
    ∧ .warm 1 ∈ (boxKeysOnly.slot 1).users ∧ (boxKeysOnly.warm 1).part.bind (·.signal) = some .locked
    ∧ (boxKeysOnly.warm 0).part.bind (·.signal) = some .locked ∧ .warm 0 ∉ (boxKeysOnly.slot 1).users :=
  ⟨(settled_of _ (by decide +kernel)).2.1, keysOnly_warms, box_current, by decide +kernel⟩
theorem test_keys_make_ready : let s := done .unwrapCompletion boxKeysOnly
    ((s.warm 1).state, posted s) = (.ready, [.warm 1]) := by decide +kernel
theorem test_newer_message : let s := done .unwrapCompletion boxNewer
    (s.keys.engine.map (·.message.version), s.keys.queue, (s.slot 1).lastVersion, (s.slot 1).state) = (some 42, [], some 41, .live) := by decide +kernel
theorem witness_unwrapGives :
    unwrapGives (boxUnwrap keyMsg 9) (box.slot 1) { keyMsg with serviceKeyId := 4 } (.error .noServiceKey)
    ∧ unwrapGives (boxUnwrap keyMsg 9) (box.slot 1) { keyMsg with agreesWith := [] } (.error .integrityFail)
    ∧ unwrapGives (boxUnwrap keyMsg 9) (box.slot 1) keyMsg (.ok 77) := by
  have held : box.account.key? box.guide.time 3 = some 77 ∧ box.account.key? box.guide.time 4 = none := by decide +kernel
  have granted : box.account.granted box.guide.time 30 = true := by decide +kernel
  exact ⟨held.2, ⟨77, held.1, .inl granted, nofun⟩, held.1, .inl granted, by decide⟩
theorem witness_unwrap_notEntitled : unwrapGives (boxUnwrap keyMsg 9) (box.slot 1) { keyMsg with accessClass := 31 } (.error .notEntitled) := by
  have granted : box.account.granted box.guide.time 31 = false := by decide +kernel
  refine ⟨by decide +kernel, fun allowed => ?_⟩
  rcases allowed with byClass | ⟨byEvent, -⟩
  · exact Bool.noConfusion (granted.symm.trans byClass)
  · exact absurd (rfl : keyMsg.event = 0) byEvent

/-! ### Account and purchases -/

/-- A genuine message whose fields are in range is brought by its cell. -/
theorem cell_brings (a : Address) (k : EntitlementKind) (h : entitlementInRange ⟨a, k, true⟩ = true) : bringsMessage (messageCell a k) ⟨a, k, true⟩ :=
  ⟨rfl, rfl, rfl, h⟩
theorem witness_messageForUnit : ¬ messageForUnit box.account (.unique 1) ∧ messageForUnit box.account (.unique 0)
    ∧ messageForUnit box.account (.group 6 20 20) ∧ ¬ messageForUnit box.account (.group 6 21 255) := by
  have group : box.account.group = some ⟨6, 20⟩ := rfl
  have unit : box.account.unitAddress = 0 := rfl
  simp [messageForUnit, group, unit]
theorem witness_EntitlementMessagesAreTaken (a : Address) (k : EntitlementKind) :
    NextCopy (boxMessage a k) (.entitlement 0 (messageCell a k)) ∧ AccountBounded (boxMessage a k).toBlock ∧ CurrentMatches (boxMessage a k).toBlock
    ∧ (∀ m, ¬ bringsMessage (cell 17 0) m) ∧ NextCopy (waiting box [.entitlement 0 (cell 17 0)]) (.entitlement 0 (cell 17 0))
    ∧ bringsMessage (messageCell .all (.revoke 30)) ⟨.all, .revoke 30, true⟩
    ∧ bringsMessage (messageCell .all (.grant 65535 4294967295 0)) ⟨.all, .grant 65535 4294967295 0, true⟩
    ∧ bringsMessage (messageCell (.unique 0) (.groupAssign 0 255)) ⟨.unique 0, .groupAssign 0 255, true⟩
    ∧ bringsMessage (messageCell .all .clearAccount) ⟨.all, .clearAccount, true⟩ :=
  ⟨first_is_next _ _ _, box_account, box_current, fun _ brings => (nomatch brings.2.2.1), first_is_next _ _ _, cell_brings _ _ (by decide),
    cell_brings _ _ (by decide), cell_brings _ _ (by decide), cell_brings _ _ (by decide)⟩

/-- The account with both tables full. -/
def fullAccount : Account := { box.account with
  entitlements := (List.range 64).map fun n => ⟨n + 1, 3100000 + n, 3100000⟩, serviceKeys := (List.range 8).map fun n => ⟨n, n, 0, 3100000 + n⟩ }

theorem witness_full_tables : AccountBounded { box.toBlock with account := fullAccount } ∧ fullAccount.entitlements.length = 64
    ∧ fullAccount.serviceKeys.length = 8 ∧ (∀ y ∈ fullAccount.entitlements, y.cls ≠ 65) ∧ (∀ y ∈ fullAccount.serviceKeys, y.keyId ≠ 8)
    ∧ (∀ y ∈ fullAccount.entitlements, 3100000 < y.expiry ∨ (3100000 = y.expiry ∧ 1 ≤ y.cls))
    ∧ (∀ y ∈ fullAccount.serviceKeys, 3100000 < y.validUntil ∨ (3100000 = y.validUntil ∧ 0 ≤ y.keyId)) := by
  refine ⟨by unfold AccountBounded; decide +kernel, by decide +kernel⟩

theorem witness_CreditClearAndLapseChangeTheAccount : bringsMessage (messageCell .all (.credit 32766 16777215)) ⟨.all, .credit 32766 16777215, true⟩
    ∧ box.account.sequence = some 65535 ∧ (32766 + 65536 - 65535) % 65536 = 32767 ∧ (32767 + 65536 - 65535) % 65536 = 32768
    ∧ NextCopy (boxMessage .all (.credit 32766 16777215)) (.entitlement 0 (messageCell .all (.credit 32766 16777215))) ∧ (∀ p ∈ box.purchases, p.chargeIsDue = false)
    ∧ bringsMessage (messageCell (.unique 0) .clearAccount) ⟨.unique 0, .clearAccount, true⟩ ∧ messageForUnit box.account (.unique 0)
    ∧ (box.purchases ≠ [] ∧ State.reset.purchases = []
      ∧ State.reset.account = { State.reset.account with entitlements := [], serviceKeys := [], purse := 0, sequence := none })
    ∧ NextCopy (boxMessage (.unique 0) .clearAccount) (.entitlement 0 (messageCell (.unique 0) .clearAccount))
    ∧ CurrentMatches box.toBlock ∧ State.reset.guide.time.utc = none ∧ box.guide.time.utc = some 3000000 := by
  refine ⟨cell_brings _ _ (by decide), rfl, by decide, by decide, first_is_next _ _ _, by decide +kernel, cell_brings _ _ (by decide),
    witness_messageForUnit.2.1, ?_, first_is_next _ _ _, box_current, rfl, rfl⟩
  decide +kernel
/-- The box with the film's second charge due and not paid, and a purse. -/
def boxOwing (purse : Nat) : State := { box with
  purchases := [{ filmRecord with clock := 1080, exhausted := true }], account := { box.account with purse := purse } }

theorem owing_distinct : PurchasesDistinct (boxOwing 0).toBlock := by unfold PurchasesDistinct; decide +kernel
theorem witness_CreditSettlesCharges (purse : Nat) (c : Cell) : NextCopy (waiting (boxOwing purse) [.entitlement 0 c]) (.entitlement 0 c)
    ∧ CurrentMatches (boxOwing purse).toBlock ∧ PurchasesDistinct (boxOwing purse).toBlock ∧ PurchasesDistinct box.toBlock
    ∧ filmRecord.taken < chargesDue filmRecord.terms 1080 ∧ min filmRecord.terms.rate (100 - filmRecord.charged) = 25
    ∧ (24 < min (24 + 1) 16777215 ∧ 25 ≤ min (24 + 1) 16777215 ∧ 23 < min (23 + 1) 16777215 ∧ min (23 + 1) 16777215 < 25)
    ∧ min (16777215 + 1) 16777215 ≤ 16777215 :=
  ⟨first_is_next _ _ _, box_current, owing_distinct, box_purchases, by decide +kernel⟩

/-- The box of a purse after a CREDIT of one unit. -/
def afterCredit (purse : Nat) : State := done (.entitlementMessageCell 0 (messageCell .all (.credit 0 1)))
  (waiting (boxOwing purse) [.entitlement 0 (messageCell .all (.credit 0 1))])

theorem test_credit_settles :
    ((afterCredit 24).account.purse, (afterCredit 24).purchases.map fun p => (p.taken, p.charged, p.exhausted)) = (0, [(2, 50, false)])
    ∧ (afterCredit 23).account.purse = 24 ∧ (afterCredit 23).purchases = (boxOwing 23).purchases := by decide +kernel
theorem witness_lapse : box.account.entitlements.filter (fun e => decide (3000000 < e.expiry) && decide (3000000 < e.renewBy)) = box.account.entitlements
    ∧ box.account.entitlements.filter (fun e => decide (3500000 < e.expiry) && decide (3500000 < e.renewBy)) ≠ box.account.entitlements := by decide +kernel

/-- The box with the film at a flat price, not yet bought. -/
def boxFlat : State :=
  { box with purchases := [], guide := { boxGuide with pool := [⟨205, { film with priceMode := .flat, flatPrice := 80 }⟩, ⟨205, news⟩] } }

theorem flat_current : CurrentMatches boxFlat.toBlock := box_current

theorem witness_BuyTakesEffect : State.reset.link.device ≠ .running ∧ box.link.device = .running ∧ box.guide.service? 1 = none
    ∧ box.guide.service? 9999 = none ∧ box.guide.service? 205 ≠ none ∧ box.guide.named? 205 9 = none
    ∧ box.guide.named? 205 512 = some film ∧ buyRefused box 0 205 film = some .alreadyBought ∧ buyRefused boxOffered 3 205 film = some .notPermitted
    ∧ buyRefused { boxOffered with account := { box.account with purse := 24 } } 0 205 film = some .creditLow
    ∧ boxOffered.guide.named? 205 0 = some film ∧ buyRefused boxOffered 0 205 film = none ∧ spanLength film.preview ≤ clockAtBuy boxOffered 205 film
    ∧ buyRefused { box with purchases := [] } 0 205 film = none ∧ clockAtBuy { box with purchases := [] } 205 film < spanLength film.preview
    ∧ boxFlat.guide.named? 205 512 = some { film with priceMode := .flat, flatPrice := 80 }
    ∧ buyRefused boxFlat 1 205 { film with priceMode := .flat, flatPrice := 80 } = none ∧ film.rate ≤ 4294967295 := by decide +kernel
theorem witness_BuyTakesEffect_lists : PurchasesDistinct boxOffered.toBlock ∧ PurchasesDistinct boxFlat.toBlock ∧ CurrentMatches boxFlat.toBlock
    ∧ CurrentMatches boxOffered.toBlock :=
  ⟨by unfold PurchasesDistinct; decide +kernel, by unfold PurchasesDistinct; decide +kernel, flat_current, box_current⟩

theorem witness_ViewingClocksCountAndCharge : PurchasesDistinct box.toBlock ∧ ChargesInStep box.toBlock ∧ filmRecord ∈ box.purchases
    ∧ filmRecord.state = .metering ∧ filmRecord.exhausted = false
    ∧ chargesDue filmRecord.terms 201 = filmRecord.taken ∧ chargesDue filmRecord.terms 1080 ≠ filmRecord.taken
    ∧ spanLength filmRecord.terms.preview = 180 ∧ spanLength filmRecord.terms.interval = 900 ∧ 179 < 180 ∧ 180 ≤ 180 :=
  ⟨box_purchases, box_charges, by decide +kernel⟩
theorem witness_watched : watched box filmRecord := ⟨4, filmNow, rfl, rfl, rfl, rfl, .inr rfl⟩

/-- The box one second of viewing before the film's second charge, with a purse. -/
def boxDue (purse : Nat) : State :=
  { box with purchases := [{ filmRecord with clock := 1079 }], account := { box.account with purse := purse } }

/-- The box at a time, with nothing current. -/
def boxOver (utc : Nat) : State :=
  { box with guide := { boxGuide with time := ⟨some utc, 60, none⟩ }, engines := { box.engines with outputs := Vector.replicate 6 Output.afterReset } }

theorem due_distinct : PurchasesDistinct (boxDue 0).toBlock := by unfold PurchasesDistinct; decide +kernel
theorem due_charges : ChargesInStep (boxDue 0).toBlock := by unfold ChargesInStep; decide +kernel
theorem witness_ViewingClocksCount (purse : Nat) : PurchasesDistinct (boxDue purse).toBlock ∧ ChargesInStep (boxDue purse).toBlock
    ∧ watched (boxDue purse) { filmRecord with clock := 1079 } ∧ CurrentMatches (boxDue purse).toBlock
    ∧ (box.out 4).showsEvent 205 512 = true ∧ min filmRecord.terms.rate (100 - filmRecord.charged) = 25 ∧ 25 ≤ 25 ∧ 24 < 25 :=
  ⟨due_distinct, due_charges, ⟨4, filmNow, rfl, rfl, rfl, rfl, .inr rfl⟩, box_current, by decide +kernel⟩
theorem witness_cleanedUp : cleanedUp (boxOver 3006200).toBlock filmRecord ∧ ¬ cleanedUp (boxOver 3006199).toBlock filmRecord
    ∧ ¬ cleanedUp box.toBlock filmRecord := by
  have stored : ∀ u, (boxOver u).guide.event? 205 512 = some film := fun _ => rfl
  refine ⟨⟨⟨3006200, rfl, fun e at_ => ?_, fun gone => ?_⟩, by decide +kernel⟩, fun h => ?_, fun h => ?_⟩
  · obtain rfl : film = e := Option.some.inj ((stored _).symm.trans at_)
    decide
  · exact nomatch (stored _).symm.trans gone
  · obtain ⟨⟨now, is, past, -⟩, -⟩ := h
    obtain rfl : 3006199 = now := Option.some.inj is
    exact absurd (past film (stored _)) (by decide)
  · obtain ⟨⟨now, is, past, -⟩, -⟩ := h
    obtain rfl : 3000000 = now := Option.some.inj is
    exact absurd (past film rfl) (by decide)
theorem test_purchase_exhausted : let s := done .purchaseSecondsExpiry (boxDue 24)
    (s.purchases.map fun p => (p.clock, p.taken, p.exhausted), s.account.purse, (s.out 4).verdict) =
      ([(1080, 1, true)], 24, some (.held .creditExhausted)) := by decide +kernel
theorem test_purchase_cleaned : let s := done .purchaseSecondsExpiry (boxOver 3006200)
    (s.purchases, posted s) = ([], [.purchase]) ∧ (done .purchaseSecondsExpiry (boxOver 3006199)).purchases = [filmRecord] := by decide +kernel

/-! ### Parental limits, verdict and faults -/

/-- Profile 1 of the box with a window from 16:00 to 21:00, a ceiling of 4, an allowance of 30 minutes and category C0 blocked. -/
def child : Profile := { box.profile 1 with settings :=
  { (box.profile 1).settings with ceiling := 4, blocked := 0x01, allowance := 30, windowStart := 960, windowEnd := 1260, blockUnrated := true } }

theorem witness_VerdictIsTheFirstFailingTest :
    (child.settings.windowStart ≠ child.settings.windowEnd ∧ child.settings.windowStart < child.settings.windowEnd
      ∧ ¬ (960 ≤ 1260 ∧ 1260 < 1260) ∧ (960 ≤ 1259 ∧ 1259 < 1260))
    ∧ (child.settings.allowance < 1440 ∧ 60 * child.settings.allowance ≤ ({ child with spent := 1800 } : Profile).spent
      ∧ ¬ 60 * child.settings.allowance ≤ ({ child with spent := 1799 } : Profile).spent)
    ∧ child.settings.blockUnrated = true ∧ child.settings.ceiling < 5 ∧ ¬ child.settings.ceiling < 4
    ∧ (0x01#8).getLsbD 0 = true ∧ child.settings.blocked.getLsbD 0 = true
    ∧ ((box.out 1).part.map (·.signal) = some (some .notLocked) ∧ (box.out 0).part.map (·.signal) = some (some .locked))
    ∧ boxGone.guide.service? 101 = none ∧ box.guide.service? 101 ≠ none
    ∧ box.currentRecord (box.out 4) = some film ∧ box.account.granted box.guide.time 500 = false ∧ box.account.granted box.guide.time 30 = true
    ∧ findPurchase box.purchases 205 512 = some filmRecord ∧ findPurchase boxFlat.purchases 205 512 = none
    ∧ film.copy ≠ .noMore ∧ film.copy ≠ .never ∧ (box.slot 0).state = .live ∧ (box.slot 1).state = .await ∧ (box.slot 1).mark = none := by
  decide +kernel

theorem witness_GrantsAndKeysFollowTheTime : (box.account.serviceKeys.Pairwise fun x y => x.keyId < y.keyId) ∧ 30 ≠ 0
    ∧ (⟨30, 3000000, 3500000⟩ : Entitlement).granted box.guide.time = false ∧ (⟨30, 4000000, 3000001⟩ : Entitlement).granted box.guide.time = true
    ∧ (⟨30, 0, 0⟩ : Entitlement).granted State.reset.guide.time = true
    ∧ (⟨3, 77, 3000000, 3000001⟩ : ServiceKeyRecord).valid box.guide.time = true ∧ (⟨3, 77, 0, 3000000⟩ : ServiceKeyRecord).valid box.guide.time = false
    ∧ (⟨3, 77, 1, 0⟩ : ServiceKeyRecord).valid State.reset.guide.time = true := by decide +kernel

theorem witness_ProfilesAndOverridesChangeUnderCodes : CurrentMatches box.toBlock ∧ codeGood code1234 = true ∧ codeGood ⟨10, 0, 0, 0⟩ = false ∧ settings.ceiling ≤ 15
    ∧ settings.allowance ≤ 1440 ∧ settings.windowStart ≤ 1439 ∧ settings.windowEnd ≤ 1439 ∧ 8 ≤ 8
    ∧ ((box.profile 0).code ≠ none ∧ (box.profile 0).lockout = 0 ∧ (box.profile 0).code ≠ some code0000 ∧ (box.profile 0).code = some code1234)
    ∧ (State.reset.profile 0).code = none
    ∧ (box.boundProfile 1 = 1 ∧ (box.profile 1).code = some code5678 ∧ (box.profile 1).lockout = 0)
    ∧ (box.out 1).delivery = .held .noSignal ∧ (box.out 1).part ≠ none ∧ (box.out 3).delivery = .restDeep :=
  ⟨box_current, by decide +kernel⟩

/-- Profiles 0 and 1 locked out. -/
def boxLockedOut : State :=
  let one : Vector Profile 8 := vset box.profiles 0 { box.profile 0 with wrongCodes := 3, lockout := 600 }
  { box with profiles := vset one 1 { box.profile 1 with wrongCodes := 3, lockout := 1 } }

theorem witness_lockouts : 0 < (boxLockedOut.profile 0).lockout ∧ 0 < (boxLockedOut.profile (boxLockedOut.boundProfile 1)).lockout
    ∧ (boxLockedOut.profile 0).code ≠ none ∧ (boxLockedOut.profile 1).lockout = 1 := by decide +kernel

theorem witness_ParentalGuideAndRingSecondsCount : box.guide.time.day? = some 34 ∧ (34 : Int) ≤ (box.profile 0).day ∧ (box.profile 3).day < 34
    ∧ box.boundProfile 0 = 0 ∧ (box.out 0).delivery = .live ∧ State.reset.guide.time.utc = none ∧ box.guide.time.utc = some 3000000
    ∧ box.guide.time.change = none := by decide +kernel
/-- The box with P0's profile one spent second short of its allowance, and P1's spent on the day before. -/
def boxSpending : State := { box with
  profiles := vset (vset box.profiles 0 { box.profile 0 with spent := 59, settings := { (box.profile 0).settings with allowance := 1 } })
    1 { box.profile 1 with day := 33, spent := 60, settings := { (box.profile 1).settings with allowance := 1 } } }

theorem witness_spent_profiles : boxSpending.guide.time.day? = some 34 ∧ CurrentMatches boxSpending.toBlock ∧ boxSpending.boundProfile 0 = 0
    ∧ boxSpending.boundProfile 1 = 1 ∧ (60 * 1 ≤ (boxSpending.profile 1).spent ∧ (boxSpending.profile 1).day < 34) ∧ ¬ 60 * 1 ≤ (boxSpending.profile 0).spent
    ∧ (done .parentalSecondsExpiry boxSpending).profile 0 = { boxSpending.profile 0 with spent := 60 } :=
  ⟨by decide +kernel, box_current, by decide +kernel⟩
theorem test_spent_is_held : ((done .parentalSecondsExpiry boxSpending).out 0).verdict = some (.held .allowanceSpent) := by decide +kernel
theorem witness_offset_change : let t : TimeBase := ⟨some 3000000, 60, some ⟨3000001, 120⟩⟩
    t.utc = some 3000000 ∧ t.change = some ⟨3000001, 120⟩ ∧ 3000001 ≤ 3000000 + 1 ∧ ¬ 3000002 ≤ 3000000 + 1 := by decide

/-- The box with KEY GAP masked and a first fault pointed to on P0. -/
def boxMasked : State := { box with engines := { box.engines with outputs := vset boxOutputs 0 { box.out 0 with fault :=
  { FaultBlock.afterReset with mask := [.keyGap], status := [.continuity], pointer := some .continuity, log := some ⟨.continuity, none, none, 1, none, none⟩ } } } }

theorem witness_FaultsFollowThePolicy : FaultClass.keyGap ∈ (boxMasked.out 0).fault.mask ∧ FaultClass.keyGap ∉ (box.out 0).fault.mask
    ∧ (boxContained.out 0).delivery = .contained ∧ (boxContained.out 0).fault.mask = []
    ∧ (box.out 0).delivery ≠ .contained ∧ (boxMasked.out 0).fault.pointer ≠ none ∧ (box.out 0).fault.pointer = none
    ∧ (FaultClass.keyIntegrity ∈ (box.out 0).fault.contain ∧ (box.out 0).fault.enable = true ∧ (box.out 0).restLevel = .awake ∧ (box.out 0).part ≠ none)
    ∧ FaultClass.keyGap ∉ (box.out 0).fault.contain := by decide +kernel

/-- The box with R0 contained, half 1 draining. -/
def boxDrainContained : State := { boxWith (boxRing.setHalf 1 { boxRing.half 1 with state := .draining }) with
  engines := { box.engines with outputs := vset boxOutputs 4 { box.out 4 with delivery := .contained, fault := { FaultBlock.afterReset with reason := some .request } } } }

theorem drain_delivery : DeliveryFollows boxDrainContained.toBlock := by
  intro o
  match o with
  | 0 => exact box_delivery 0
  | 1 => exact box_delivery 1
  | 2 => exact box_delivery 2
  | 3 => exact box_delivery 3
  | 4 => exact ⟨by decide, (rfl : (boxDrainContained.out 4).delivery = .contained)⟩
  | 5 => exact box_delivery 5

theorem witness_FaultRequestsAreTaken : DeliveryFollows box.toBlock ∧ DeliveryFollows boxContained.toBlock ∧ DeliveryFollows boxDrainContained.toBlock
    ∧ 6 ≤ 6 ∧ (box.out 5).delivery = .off ∧ (box.out 2).delivery = .restLight ∧ (box.out 0).delivery = .live ∧ (boxContained.out 0).delivery = .contained
    ∧ (boxDrainContained.out 4).delivery = .contained ∧ ((boxDrainContained.ring 0).half 1).state = .draining
    ∧ (boxMasked.out 0).fault.pointer = some .continuity ∧ FaultClass.continuity ∈ (boxMasked.out 0).fault.status :=
  ⟨box_delivery, contained_delivery, drain_delivery, by decide +kernel⟩

/-! ### Recording requests, guide sections and the Output Engines' second -/

theorem witness_RecordingStartsAndStops : State.reset.link.device ≠ .running ∧ box.link.device = .running ∧ 3 < 4 ∧ 6 ≤ 6
    ∧ (box.ring 1).field = none ∧ (box.ring 0).field ≠ none ∧ box.guide.service? 9999 = none
    ∧ ((box.out 4).part.map (·.service) = some 205 ∧ (box.out 4).part.bind (·.tuner) ≠ none)
    ∧ (boxLost.guide.service? 500 ≠ none ∧ boxLost.guide.mux? 63 = none)
    ∧ (box.guide.service? 330 ≠ none ∧ box.guide.mux? 31 = some ⟨600000, .q64⟩ ∧ chooseTuner box.pool .primary ⟨600000, .q64⟩ = some (3, .share)
      ∧ (box.out 4).restLevel = .awake ∧ (box.ring 0).writer ≠ .idle)
    ∧ (let idle := (boxWith { Ring.cleared (some ⟨0, 1024⟩) with lastFilled := some 1 }).ring 0
       idle.writer = .idle ∧ (idle.half 0).state = .free ∧ (idle.half (otherHalf 0)).state = .free ∧ idle.lastFilled = some (otherHalf 0))
    ∧ (box.out 4).delivery = .live ∧ (box.out 5).delivery = .off ∧ (boxDrainContained.out 4).delivery = .contained
    ∧ ((box.ring 0).writer = .writing 0 ∧ ((box.ring 0).half 0).count = 0) ∧ 0 < nearlyFull.count := by decide +kernel

theorem witness_DrainsSendWhatWasStored : UnitsWritten box.toBlock ∧ 3 < 4 ∧ 6 ≤ 6 ∧ 2 ≤ 2 ∧ (box.ring 1).field = none
    ∧ ((box.ring 0).half 0).state ≠ .full ∧ ((box.ring 0).half 1).state = .full ∧ ((box.ring 0).half (otherHalf 1)).state ≠ .draining
    ∧ ((box.ring 0).half 1).copy = some .once ∧ ((box.ring 0).half 1).first = some 1 ∧ ((box.ring 0).half 1).last = some 1
    ∧ (box.ring 0).drain = none ∧ (boxDraining.ring 0).drain = some ⟨1, 0⟩ ∧ (boxDraining.ring 0).field = some ⟨0, 1024⟩
    ∧ 0 < ((boxDraining.ring 0).half 1).count ∧ ((done (.drainUnitSent 0) boxDraining).ring 0).drain = some ⟨1, 1⟩
    ∧ (∀ n < 192, box.ringWriter.memory.read (196608 + n) ≠ none) :=
  ⟨box_units, by decide +kernel⟩
theorem witness_drain_unwritten : let s := { boxDraining with ringWriter := { boxDraining.ringWriter with memory := { cells := [] } } }
    (s.ring 0).drain = some ⟨1, 0⟩ ∧ s.ringWriter.memory.read 196608 = none := by decide +kernel
theorem witness_drain_busy : let s := boxWith { boxRing.setHalf 0 { nearlyFull with state := .draining, count := 1024 } with drain := some ⟨0, 3⟩, writer := .idle }
    ((s.ring 0).half 1).state = .full ∧ ((s.ring 0).half (otherHalf 1)).state = .draining ∧ (s.ring 0).field ≠ none := by decide +kernel

/-- An assembly in progress. -/
def assembly : Assembly := { partialSection := some ⟨[5], 184, some 300⟩, last := some 15 }

theorem witness_GuideCellsAreAssembled (x : SectionBody) : NextCopy (boxSection x) (.guide 0 (guideCellOf x)) ∧ ¬ NextCopy box (.guide 0 (cell 32 0))
    ∧ NextCopy (waiting box [.guide 0 (cell 32 0)]) (.guide 0 (cell 32 0)) ∧ (cell 32 0).scramble = .clear ∧ (cell 32 0).start = true ∧ ({ cell 32 0 with start := false } : Cell).start = false
    ∧ assembly.last = some 15 ∧ (15 + 1) % 16 = (cell 32 0).count ∧ (cell 32 1).count ≠ (15 + 1) % 16 ∧ 4096 < 4097 ∧ 4096 ≤ 4096
    ∧ ((box.guide.assemblies.get 0).take (guideCellOf .other)).2 = some ⟨.other, true⟩
    ∧ ((box.guide.assemblies.get 0).take (cell 32 0)).2 = none := by
  refine ⟨first_is_next _ _ _, ?_, first_is_next _ _ _, by decide +kernel⟩
  rintro ⟨before, rest, copies, -⟩
  simp [show box.filter.copies = [] from rfl] at copies

theorem witness_TimeSectionsSetTheTime (x : SectionBody) : NextCopy (boxSection x) (.guide 0 (guideCellOf x))
    ∧ ((box.guide.assemblies.get 0).take (guideCellOf (.time 3003000 840 (some ⟨3003001, -720⟩)))).2 = some ⟨.time 3003000 840 (some ⟨3003001, -720⟩), true⟩
    ∧ (-720 : Int) ≤ -720 ∧ (840 : Int) ≤ 840 ∧ box.guide.time.utc ≠ some 3003000 ∧ box.guide.time.utc = some 3000000
    ∧ timeOf 3000000 60 none = box.guide.time ∧ timeOf 3003000 840 none ≠ box.guide.time ∧ (timeOf 3100000 60 none).day? = some 35
    ∧ (box.out 2).stopAt = some 3000600 := ⟨first_is_next _ _ _, by decide +kernel⟩

/-- The box with stop-ats on a LIVE P0, a CONTAINED P1 and a deeply resting P3. -/
def boxStopping : State := { box with
  engines := { box.engines with outputs := Vector.ofFn fun o => { box.out o with
    stopAt := some 3000600
    delivery := if o = 1 then .contained else (box.out o).delivery
    fault := if o = 1 then { FaultBlock.afterReset with reason := some .request } else (box.out o).fault } } }

theorem witness_TimeSectionsSetTheTime_stops (c : Cell) : NextCopy (waiting boxStopping [.guide 0 c]) (.guide 0 c)
    ∧ (∀ o : OutId, o.val < 4 → (boxStopping.out o).stopAt = some 3000600 ∧ (boxStopping.out o).part ≠ none) ∧ 3000600 ≤ 3000600 ∧ ¬ 3000600 ≤ 3000599
    ∧ ((boxStopping.out 0).restLevel = .awake ∧ (boxStopping.out 0).fault.reason = none)
    ∧ ((boxStopping.out 1).restLevel = .awake ∧ (boxStopping.out 1).fault.reason ≠ none)
    ∧ ((boxStopping.out 2).restLevel = .light ∧ (boxStopping.out 2).delivery = .restLight)
    ∧ ((boxStopping.out 3).restLevel = .deep ∧ (boxStopping.out 3).delivery = .restDeep) :=
  ⟨first_is_next _ _ _, by decide +kernel⟩
theorem test_time_stops : let time := guideCellOf (.time 3000600 60 none)
    let s := done (.guideCell 0 time) (waiting boxStopping [.guide 0 time])
    presIds.map (fun w => ((s.out (presOut w)).delivery, (s.out (presOut w)).restSeconds)) =
      [(.restLight, 0), (.contained, 0), (.restLight, 8), (.restDeep, 0)] := by decide +kernel

/-- A map of version 8 in one section: services 205 and 330, with 205 moved. -/
def mapSection (last : Nat) : SectionBody :=
  .serviceMap 8 0 last [⟨20, 510000, some .q64⟩, ⟨31, 600000, some .q64⟩]
    [{ serviceNow with number := 205, muxIndex := 20, video := 401, audios := [⟨402, []⟩] },
     { serviceNow with number := 330, muxIndex := 31, video := 621, audios := [⟨622, []⟩], keyLabel := some 620 }]

theorem witness_CompleteMapsReplaceTheTables (x : SectionBody) : NextCopy (boxSection x) (.guide 0 (guideCellOf x))
    ∧ ((box.guide.assemblies.get 0).take (guideCellOf (mapSection 0))).2 = some ⟨mapSection 0, true⟩
    ∧ ((box.guide.assemblies.get 0).take (guideCellOf (mapSection 1))).2 = some ⟨mapSection 1, true⟩ ∧ 0 ≤ 0 ∧ 0 ≤ 1
    ∧ box.guide.mapVersion ≠ some 8 ∧ box.guide.pendingMap = none := ⟨first_is_next _ _ _, by decide +kernel⟩
theorem witness_ContextsFollowTheMap : TunersConsistent (boxSection (mapSection 0)).toBlock ∧ SlotsConsistent (boxSection (mapSection 0)).toBlock
    ∧ Settled (boxSection (mapSection 0)).toBlock
    ∧ (∃ b, Makes (.guideCell 0 (guideCellOf (mapSection 0))) (boxSection (mapSection 0)) b ∧ b.guide.mapVersion = some 8
      ∧ b.guide.service? 205 ≠ none ∧ b.guide.service? 330 ≠ none ∧ b.guide.service? 412 = none ∧ b.guide.mux? 20 = some ⟨510000, .q64⟩)
    ∧ (box.out 4).part.bind (·.tuner) = some 2 ∧ (box.tuner 2).mux = some ⟨500000, .q64⟩ ∧ (box.warm 1).part.bind (·.tuner) = some 3
    ∧ (box.tuner 3).mux = some ⟨600000, .q64⟩ ∧ (box.out 3).part.bind (·.tuner) = none ∧ (box.warm 2).part = none
    ∧ MapOrdered (boxSection (mapSection 0)).toBlock :=
  ⟨box_tuners, box_slots, box_settled, ⟨_, rfl, by decide +kernel⟩, by decide +kernel, by decide +kernel, by decide +kernel, by decide +kernel,
    by decide +kernel, rfl, nofun⟩
theorem test_map_applied : let s := afterSection (mapSection 0)
    s.guide.mapVersion = some 8 ∧ s.guide.services.map (·.number) = [205, 330] ∧ (s.out 4).part.map (fun p => (p.version, p.tuner)) = some (8, some 5)
      ∧ (s.out 0).verdict = some (.held .noService) ∧ (s.warm 0).state = .preparing := by
  decide +kernel

theorem witness_EventBlocksEnterThePool (x : SectionBody) : NextCopy (boxSection x) (.guide 0 (guideCellOf x)) ∧ PoolOrdered (boxSection x).toBlock
    ∧ ((box.guide.assemblies.get 0).take (guideCellOf (.eventBlock 2 0 0 205 [entry 600 3004400]))).2 = some ⟨.eventBlock 2 0 0 205 [entry 600 3004400], true⟩
    ∧ box.guide.service? 205 ≠ none ∧ 3600 ≤ 86400 ∧ 86400 < 86401 ∧ 4294963695 + 3600 ≤ 4294967295 ∧ ¬ 4294963696 + 3600 ≤ 4294967295
    ∧ (entry 600 3004400).eventId ≠ 0 ∧ (entry 600 3004400).duration ≠ 0 ∧ box.guide.pool.length ≠ 2048 :=
  ⟨first_is_next _ _ _, box_pool, by decide +kernel⟩

theorem witness_OutputSecondsCount : DeliveryFollows box.toBlock ∧ (box.out 2).restLevel = .light ∧ (box.out 3).restLevel = .deep
    ∧ (box.out 0).delivery = .live ∧ (box.out 2).stopAt = some 3000600 ∧ box.guide.time.reached 3000600 = false
    ∧ ({ box.guide.time with utc := some 3000600 } : TimeBase).reached 3000600 = true
    ∧ min ((box.out 2).restSeconds + 1) 65535 = 9 ∧ spanLength box.engines.deepen = 10 ∧ FaultClass.streamSilence ∉ (box.out 0).fault.mask
    ∧ (∀ o, (State.reset.out o).restLevel = .awake ∧ (State.reset.out o).stopAt = none) :=
  ⟨box_delivery, by decide +kernel⟩

/-! ### The select periods of the requests -/

/-- The states that the witnesses give for requests stand in a select period that has carried none. -/
theorem witness_heard : Heard hd box ∧ Heard hd State.reset ∧ (∀ n, Heard hd (atStage n)) ∧ (∀ absent, Heard hd (stageFour absent)) ∧ Heard hd boxContained
    ∧ Heard hd boxOffered ∧ Heard hd boxFull ∧ Heard hd boxForgotten ∧ Heard hd boxGone ∧ Heard hd boxMoved ∧ (∀ x, Heard hd (boxSlot x))
    ∧ (∀ x, Heard hd (boxWith x)) ∧ Heard hd boxFlat ∧ Heard hd boxLockedOut ∧ Heard hd boxSpending ∧ Heard hd boxMasked
    ∧ Heard hd boxDrainContained := by
  repeat' first | intro _ | constructor

end Sys2Proof.Tests
end

section
/-! SUPPORT. Queries: the one reply that a heard query places. -/

namespace Sys2Proof.Machine

/-- A heard query is answered with what it reads off the block, and changes nothing else (R196). -/
theorem answers_of_query {c : Instr} {h : Head} {read : Block → ReplyBody} {s : State} (named : requestHead c = some h)
    (query : exec c s = answerQuery h read s) (heard : Heard h s) : Answers c s (read s.toBlock) := by
  obtain ⟨fits, first⟩ := heard
  exact ⟨h, named, query.trans (answer_next h _ s fits first)⟩

end Sys2Proof.Machine
end

section
/-! PROOF. Local time (R36). -/

open Sys2Proof Sys2Proof.Machine

/-- Settles O27: the day, the minute and the second are the digits of local seconds in days of 86,400 and minutes of 60. -/
theorem localTimeFollowsTheOffset : Obligations.LocalTimeFollowsTheOffset := by
  refine ⟨fun t unset => ?_, fun t u set => ?_, rfl, rfl⟩
  · simp [TimeBase.day?, TimeBase.minute?, TimeBase.local?, unset]
  · let l := (u : Int) + 60 * t.offset
    have digits : t.day? = some (l / 86400) ∧ t.minute? = some (l % 86400 / 60).toNat := by
      simp [TimeBase.day?, TimeBase.minute?, TimeBase.local?, set, l]
    obtain ⟨day, minute⟩ := digits
    exact ⟨_, _, (l % 60).toNat, day, minute, by omega, by omega, by omega⟩

end

section
/-! SUPPORT. SEEK: its argument checks, its match, the order of its walk, and where the walk stops (R43 to R46). -/

namespace Sys2Proof.Machine

/-! ## The argument checks (R43) -/

theorem conditionBelongs_categories (c : SeekCondition) :
    conditionBelongs .categories c = true ↔ c = .anyOf ∨ c = .allOf ∨ c = .noneOf := by
  cases c <;> simp [conditionBelongs]

theorem conditionBelongs_series (c : SeekCondition) : conditionBelongs .series c = true ↔ c = .eq := by
  cases c <;> simp [conditionBelongs]

theorem conditionBelongs_number {f : SeekField} (number : f ≠ .categories ∧ f ≠ .series) (c : SeekCondition) :
    conditionBelongs f c = true ↔ c ≠ .anyOf ∧ c ≠ .allOf ∧ c ≠ .noneOf := by
  cases f <;> cases c <;> simp [conditionBelongs] at number ⊢

/-- The checks of the model are the checks of R43. -/
theorem seekArgumentsGood_iff (q : SeekQuery) : seekArgumentsGood q = true ↔ seekAllowed q := by
  unfold seekArgumentsGood seekAllowed
  cases f : q.field
  case categories => simp [conditionBelongs_categories, and_assoc]
  case series => simp [conditionBelongs_series, and_assoc]
  all_goals simp [conditionBelongs_number, and_assoc]

/-! ## The match of one event (R45) -/

/-- How a condition on numbers reads (R45). -/
def numberMeets (c : SeekCondition) (x value : Nat) : Prop :=
  match c with
  | .eq => x = value
  | .ne => x ≠ value
  | .lt => x < value
  | .le => x ≤ value
  | .gt => x > value
  | .ge => x ≥ value
  | _ => False

theorem compareNumbers_iff (c : SeekCondition) (x value : Nat) : compareNumbers c x value = true ↔ numberMeets c x value := by
  cases c <;> simp [compareNumbers, numberMeets]

/-- Two sets of flags share none. -/
theorem and_ofNat_eq_zero_iff {w : Nat} (x : BitVec w) (v : Nat) :
    x &&& BitVec.ofNat w v = 0#w ↔ ∀ i < w, ¬ (x.getLsbD i = true ∧ v.testBit i = true) := by
  simp +contextual only [BitVec.eq_of_getLsbD_eq_iff, BitVec.getLsbD_and, BitVec.getLsbD_ofNat, Nat.zero_testBit,
    decide_true, Bool.true_and, ← Bool.and_eq_true, Bool.not_eq_true]

/-- Two sets of flags share one. -/
theorem and_ofNat_ne_zero_iff {w : Nat} (x : BitVec w) (v : Nat) :
    x &&& BitVec.ofNat w v ≠ 0#w ↔ ∃ i < w, x.getLsbD i = true ∧ v.testBit i = true := by
  simpa using (and_ofNat_eq_zero_iff x v).not

/-- A set of flags has every flag of another. -/
theorem and_ofNat_eq_self_iff {w : Nat} (x : BitVec w) (v : Nat) :
    x &&& BitVec.ofNat w v = BitVec.ofNat w v ↔ ∀ i < w, v.testBit i = true → x.getLsbD i = true := by
  simp +contextual only [BitVec.eq_of_getLsbD_eq_iff, BitVec.getLsbD_and, BitVec.getLsbD_ofNat, decide_true, Bool.true_and,
    Bool.and_eq_right_iff_imp]

/-- The match of the model is the match of R45, for the arguments that SEEK allows. -/
theorem seekMatches_iff {q : SeekQuery} (allowed : seekAllowed q) (e : Event) : seekMatches q e = true ↔ seekFieldMatches q e := by
  obtain ⟨-, -, belongs⟩ := allowed
  unfold seekMatches seekFieldMatches
  cases f : q.field <;> simp only [f] at belongs ⊢
  case categories =>
    obtain ⟨c | c | c, -⟩ := belongs <;> simp only [c, compareSets, decide_eq_true_eq]
    · exact and_ofNat_ne_zero_iff _ _
    · exact and_ofNat_eq_self_iff _ _
    · exact and_ofNat_eq_zero_iff _ _
  case series => simp [belongs.1]
  all_goals exact compareNumbers_iff _ _ _

/-! ## The order of the walk (R44) -/

/-- Whether an event starts strictly beyond a time in the direction of a walk (R44). -/
def startsPast (d : Direction) (start : Nat) (x : Event) : Bool :=
  match d with
  | .forward => decide (start < x.start)
  | .backward => decide (x.start < start)

/-- Whether an event starts beyond a time in the direction of a walk, or, where that is wanted, at it (R44). -/
def startsFrom (d : Direction) (start : Nat) (own : Bool) (x : Event) : Bool :=
  startsPast d start x || (own && decide (x.start = start))

/-- The list of a service in the direction of a walk (R44). -/
def inDirection (d : Direction) (l : List Event) : List Event :=
  match d with
  | .forward => l
  | .backward => l.reverse

theorem mem_inDirection {d : Direction} {l : List Event} {e : Event} : e ∈ inDirection d l ↔ e ∈ l := by
  cases d <;> simp [inDirection]

/-- No event starts beyond its own start. -/
theorem startsPast_self (d : Direction) (e : Event) : startsPast d e.start e = false := by
  cases d <;> simp [startsPast]

/-- Two starts are not beyond each other. -/
theorem startsPast_asymm {d : Direction} {x y : Event} (h : startsPast d x.start y = true) :
    startsPast d y.start x = false ∧ x.start ≠ y.start := by
  cases d <;> simp [startsPast] at h ⊢ <;> omega

/-- What is at or beyond a time stays so further on in the walk. -/
theorem startsFrom_trans {d : Direction} {t : Nat} {x y : Event} (h : startsPast d x.start y = true)
    (reached : startsFrom d t true x = true) : startsFrom d t true y = true := by
  cases d <;> simp [startsFrom, startsPast] at h reached ⊢ <;> omega

/-- The events of a list in start order are in the order of any walk over it. -/
theorem inDirection_pairwise {l : List Event} (d : Direction) (starts : l.Pairwise fun x y => x.start < y.start) :
    (inDirection d l).Pairwise fun x y => startsPast d x.start y = true := by
  cases d
  · simpa [inDirection, startsPast] using starts
  · simpa [inDirection, startsPast, List.pairwise_reverse] using starts

/-- Event ids stay distinct in the order of any walk. -/
theorem inDirection_ids {l : List Event} (d : Direction) (ids : l.Pairwise fun x y => x.eventId ≠ y.eventId) :
    (inDirection d l).Pairwise fun x y => x.eventId ≠ y.eventId := by
  cases d
  · exact ids
  · simpa [inDirection, List.pairwise_reverse, ne_comm] using ids

/-- The events from the first that satisfies a test on, behind events that do not. -/
theorem fromFirst_append {test : Event → Bool} {pre : List Event} (e : Event) (post : List Event)
    (fails : ∀ x ∈ pre, test x = false) (passes : test e = true) : fromFirst test (pre ++ e :: post) = e :: post := by
  induction pre with
  | nil => simp [fromFirst, passes]
  | cons x pre ih =>
    rw [List.forall_mem_cons] at fails
    simp [fromFirst, fails.1, ih fails.2]

/-- Where a test, once satisfied, is satisfied by every later event, the events from the first on are those that satisfy it. -/
theorem fromFirst_eq_filter {test : Event → Bool} {l : List Event} (lasts : l.Pairwise fun x y => test x = true → test y = true) :
    fromFirst test l = l.filter test := by
  induction lasts with
  | nil => rfl
  | @cons x l later _ ih =>
    cases t : test x
    · simp [fromFirst, t, ih]
    · simpa [fromFirst, t] using (List.filter_eq_self.mpr fun y mem => later y mem t).symm

/-- In the order of a walk, the events beyond the one at a place are those behind it. -/
theorem filter_startsFrom {d : Direction} {pre post : List Event} {e : Event}
    (order : (pre ++ e :: post).Pairwise fun x y => startsPast d x.start y = true) (own : Bool) :
    (pre ++ e :: post).filter (startsFrom d e.start own) = if own then e :: post else post := by
  obtain ⟨-, behind, across⟩ := List.pairwise_append.mp order
  have before : pre.filter (startsFrom d e.start own) = [] := List.filter_eq_nil_iff.mpr fun x mem => by
    obtain ⟨asymm, ne⟩ := startsPast_asymm (across x mem e (by simp))
    simp [startsFrom, asymm, ne]
  have after : post.filter (startsFrom d e.start own) = post := List.filter_eq_self.mpr fun x mem => by
    simp [startsFrom, (List.pairwise_cons.mp behind).1 x mem]
  rw [List.filter_append, before, List.nil_append, List.filter_cons, after]
  simp [startsFrom, startsPast_self]

/-- The walk of the model from an event that is in the list. -/
theorem walkList_of_found {q : SeekQuery} {l : List Event} {e : Event} (named : q.fromId ≠ 0)
    (found : l.find? (fun x => decide (x.eventId = q.fromId)) = some e) :
    walkList q l = let there := fromFirst (fun x => decide (x.eventId = q.fromId)) (inDirection q.direction l)
      if q.includeFrom then there else there.tail := by
  have present : (l.any fun x => decide (x.eventId = q.fromId)) = true :=
    List.any_eq_true.mpr ⟨e, List.mem_of_find?_eq_some found, by simpa using List.find?_some found⟩
  unfold walkList
  rw [if_pos ⟨named, present⟩]
  rfl

/-- The walk of the model from a start. -/
theorem walkList_of_missing {q : SeekQuery} {l : List Event}
    (missing : q.fromId = 0 ∨ l.find? (fun x => decide (x.eventId = q.fromId)) = none) :
    walkList q l = fromFirst (startsFrom q.direction q.fromStart true) (inDirection q.direction l) := by
  have absent : ¬ (q.fromId ≠ 0 ∧ (l.any fun x => decide (x.eventId = q.fromId)) = true) := by
    rintro ⟨named, present⟩
    obtain ⟨x, mem, same⟩ := List.any_eq_true.mp present
    exact List.find?_eq_none.mp (missing.resolve_left named) x mem same
  unfold walkList
  rw [if_neg absent]
  congr 1
  funext x
  rw [Bool.eq_iff_iff]
  cases q.direction <;> simp [startsFrom, startsPast] <;> omega

/-- The walk of R44 from an event that is in the list. -/
theorem seekOrder_of_found {q : SeekQuery} {l : List Event} {e : Event} (named : q.fromId ≠ 0)
    (found : l.find? (fun x => decide (x.eventId = q.fromId)) = some e) :
    seekOrder q l = (inDirection q.direction l).filter (startsFrom q.direction e.start q.includeFrom) := by
  unfold seekOrder
  rw [if_neg named, found]
  rfl

/-- The walk of R44 from a start. -/
theorem seekOrder_of_missing {q : SeekQuery} {l : List Event}
    (missing : q.fromId = 0 ∨ l.find? (fun x => decide (x.eventId = q.fromId)) = none) :
    seekOrder q l = (inDirection q.direction l).filter (startsFrom q.direction q.fromStart true) := by
  unfold seekOrder
  rw [ite_eq_left_iff.mpr missing.resolve_left]
  rfl

/-- On an ordered list the walk of the model examines the events of R44. -/
theorem walkList_eq_seekOrder {q : SeekQuery} {l : List Event} (starts : l.Pairwise fun x y => x.start < y.start)
    (ids : l.Pairwise fun x y => x.eventId ≠ y.eventId) : walkList q l = seekOrder q l := by
  have order := inDirection_pairwise q.direction starts
  by_cases missing : q.fromId = 0 ∨ l.find? (fun x => decide (x.eventId = q.fromId)) = none
  · rw [walkList_of_missing missing, seekOrder_of_missing missing, fromFirst_eq_filter]
    exact order.imp startsFrom_trans
  · obtain ⟨named, present⟩ := not_or.mp missing
    obtain ⟨e, found⟩ := Option.ne_none_iff_exists'.mp present
    have same : e.eventId = q.fromId := by simpa using List.find?_some found
    have mem : e ∈ inDirection q.direction l := mem_inDirection.mpr (List.mem_of_find?_eq_some found)
    obtain ⟨pre, post, split⟩ := List.append_of_mem mem
    obtain ⟨-, -, apart⟩ := List.pairwise_append.mp (split ▸ inDirection_ids q.direction ids)
    rw [walkList_of_found named found, seekOrder_of_found named found, split, filter_startsFrom (split ▸ order),
      fromFirst_append e post (fun x mem => by simpa [same] using apart x mem e (by simp)) (by simp [same])]
    rfl

/-- The events of a service stand in start order, with distinct ids (R32). -/
theorem events_ordered {b : Block} (ordered : PoolOrdered b) (service : Nat) :
    (b.guide.events service).Pairwise (fun x y => x.start < y.start)
      ∧ (b.guide.events service).Pairwise fun x y => x.eventId ≠ y.eventId := by
  obtain ⟨-, long, apart, ids⟩ := ordered
  unfold Guide.events
  simp only [List.pairwise_map, List.pairwise_filter, decide_eq_true_eq]
  constructor
  · refine apart.imp_of_mem fun {x y} mem _ h one two => ?_
    have := long x mem
    simp only [Event.finish] at h
    omega
  · exact ids.imp fun h one two => h (one.trans two.symm)

/-! ## Where the walk stops (R46) -/

/-- An event that matches within the limit ends the walk, after events that do not match. -/
theorem seekWalk_found {test : Event → Bool} {e : Event} (post : List Event) (passes : test e = true) :
    ∀ {pre : List Event} {limit : Nat} (examined : Nat), (∀ x ∈ pre, test x = false) → pre.length < limit →
      seekWalk test (pre ++ e :: post) limit examined = .found e.eventId e.start (examined + pre.length + 1) (limit - (pre.length + 1))
  | [], _, _, _, _ => by simp [seekWalk, passes]
  | x :: pre, limit, examined, fails, room => by
    rw [List.forall_mem_cons] at fails
    rw [List.length_cons] at room
    have more : limit - 1 ≠ 0 := by omega
    simp only [List.cons_append, seekWalk, fails.1, more, if_false, Bool.false_eq_true,
      seekWalk_found post passes (examined + 1) fails.2 (show pre.length < limit - 1 by omega), List.length_cons]
    congr 1 <;> omega

/-- A walk that spends its limit on events that do not match names the next one. -/
theorem seekWalk_limit {test : Event → Bool} (e : Event) (post : List Event) :
    ∀ {pre : List Event} (examined : Nat), pre ≠ [] → (∀ x ∈ pre, test x = false) →
      seekWalk test (pre ++ e :: post) pre.length examined = .limit e.eventId e.start (examined + pre.length)
  | [x], examined, _, fails => by simp [seekWalk, fails x]
  | x :: y :: pre, examined, _, fails => by
    rw [List.forall_mem_cons] at fails
    have rest := seekWalk_limit e post (pre := y :: pre) (examined + 1) (by simp) fails.2
    simpa [seekWalk, fails.1, Nat.add_assoc, Nat.add_comm 1] using rest

/-- A walk that meets no match and runs out of events within its limit examines them all. -/
theorem seekWalk_finished {test : Event → Bool} :
    ∀ {l : List Event} {limit : Nat} (examined : Nat), (∀ x ∈ l, test x = false) → l.length ≤ limit →
      seekWalk test l limit examined = .finished (examined + l.length)
  | [], _, _, _, _ => rfl
  | [x], limit, examined, fails, room => by
    by_cases last : limit - 1 = 0 <;> simp [seekWalk, fails x, last]
  | x :: y :: l, limit, examined, fails, room => by
    rw [List.forall_mem_cons] at fails
    rw [List.length_cons] at room
    have more : limit - 1 ≠ 0 := by rw [List.length_cons] at room; omega
    rw [seekWalk, fails.1, if_neg (by simp), if_neg more, seekWalk_finished (examined + 1) fails.2 (by omega)]
    simp; omega

/-! ## The reply -/

/-- The reply that SEEK reads off the block: its checks in order, then its walk (R43). -/
def seekReply (q : SeekQuery) (b : Block) : ReplyBody :=
  if b.running = false then .refused .notReady
  else if seekArgumentsGood q = false then .refused .badArgument
  else if (b.guide.service? q.service).isNone then .refused .unknownService
  else .data (.seek (b.guide.seek q))

theorem exec_seek (h : Head) (q : SeekQuery) (s : State) : exec (.seek h q) s = answerQuery h (seekReply q) s := by rfl

theorem seek_answers {h : Head} {q : SeekQuery} {s : State} {body : ReplyBody} (heard : Heard h s)
    (reply : seekReply q s.toBlock = body) : Answers (.seek h q) s body :=
  reply ▸ answers_of_query rfl (exec_seek h q s) heard

theorem seekReply_notReady {q : SeekQuery} {b : Block} (idle : b.link.device ≠ .running) : seekReply q b = .refused .notReady := by
  simp [seekReply, Block.running, idle]

theorem seekReply_badArgument {q : SeekQuery} {b : Block} (running : b.link.device = .running) (bad : ¬ seekAllowed q) :
    seekReply q b = .refused .badArgument := by
  rw [← seekArgumentsGood_iff, Bool.not_eq_true] at bad
  simp [seekReply, Block.running, running, bad]

theorem seekReply_unknownService {q : SeekQuery} {b : Block} (running : b.link.device = .running) (allowed : seekAllowed q)
    (unknown : b.guide.service? q.service = none) : seekReply q b = .refused .unknownService := by
  simp [seekReply, Block.running, running, (seekArgumentsGood_iff q).mpr allowed, unknown]

/-- A SEEK whose checks pass gives the outcome of its walk over the events of R44. -/
theorem seekReply_walk {q : SeekQuery} {b : Block} (ordered : PoolOrdered b) (running : b.link.device = .running)
    (allowed : seekAllowed q) (known : b.guide.service? q.service ≠ none) :
    seekReply q b = .data (.seek (seekWalk (seekMatches q) (seekOrder q (b.guide.events q.service)) q.limit 0)) := by
  obtain ⟨starts, ids⟩ := events_ordered ordered q.service
  simp [seekReply, Block.running, running, (seekArgumentsGood_iff q).mpr allowed, known, Guide.seek, walkList_eq_seekOrder starts ids]

end Sys2Proof.Machine
end

section
/-! PROOF. SEEK (R43 to R46). -/

open Sys2Proof Sys2Proof.Machine

/-- Settles O28: the checks one by one, then the walk of an ordered list, which stops at a match, at the limit, or at the end. -/
theorem seekAnswersByItsWalk : Obligations.SeekAnswersByItsWalk := by
  intro h q s heard ordered
  refine ⟨rfl, fun idle => seek_answers heard (seekReply_notReady idle),
    fun running bad => seek_answers heard (seekReply_badArgument running bad),
    fun running allowed unknown => seek_answers heard (seekReply_unknownService running allowed unknown), fun running allowed known => ?_⟩
  have reply := seekReply_walk ordered running allowed known
  have fails : ∀ {l : List Event}, (∀ x ∈ l, ¬ seekFieldMatches q x) → ∀ x ∈ l, seekMatches q x = false := by
    simp [← seekMatches_iff allowed]
  refine ⟨fun pre e post split unmatched room passes => seek_answers heard ?_, fun pre e post split unmatched spent => seek_answers heard ?_,
    fun unmatched room => seek_answers heard ?_⟩
  · rw [reply, split, seekWalk_found post ((seekMatches_iff allowed e).mpr passes) 0 (fails unmatched) room, Nat.zero_add]
  · have nonempty : pre ≠ [] := by
      obtain ⟨-, ⟨positive, -⟩, -⟩ := allowed
      exact List.ne_nil_of_length_pos (by omega)
    rw [reply, split, ← spent, seekWalk_limit e post 0 nonempty (fails unmatched), Nat.zero_add]
  · rw [reply, seekWalk_finished 0 (fails unmatched) room, Nat.zero_add]

end

section
/-! SUPPORT. The notice queue: what a posting leaves, how many notices there can be, their codes, and NEXT NOTICE (R198, R199). -/

namespace Sys2Proof.Machine

/-! ## A posting (R198) -/

/-- The keys of a queue after a posting: as they were where the notice's own is among them, with it at the end otherwise. -/
theorem postTo_keys_eq (q : List Notice) (n : Notice) :
    (postTo q n).map (·.key) = if n.key ∈ q.map (·.key) then q.map (·.key) else q.map (·.key) ++ [n.key] := by
  obtain same | ⟨fresh, grown⟩ := postTo_keys q n
  · have pending : n.key ∈ q.map (·.key) := same ▸ List.mem_map_of_mem (mem_postTo_self q n)
    rw [if_pos pending, same]
  · rw [if_neg fresh, grown]

/-- Attention is asserted exactly while a notice is pending. -/
theorem Link.attention_iff (l : Link) : l.attention = true ↔ l.notices ≠ [] := by
  simp [Link.attention]

theorem Block.post_attention (b : Block) (key : NoticeKey) (body : NoticeBody) : (b.post key body).link.attention = true := by
  rw [Link.attention_iff]
  exact List.ne_nil_of_mem (mem_postTo_self _ _)

/-! ## The kinds and subjects (R198) -/

/-- Every kind of notice with every subject that it can have. -/
def noticeKeys : List NoticeKey :=
  (List.finRange 6).map .output ++ (List.finRange 4).map .warm ++ (List.finRange 2).map .ring ++ (List.finRange 6).map .fault
    ++ [.guide, .time, .account, .purchase, .started]

theorem mem_noticeKeys (key : NoticeKey) : key ∈ noticeKeys := by
  cases key <;> simp [noticeKeys]

/-- Notices of distinct kind and subject are never more than there are kinds and subjects. -/
theorem length_le_of_keys_nodup {q : List Notice} (distinct : (q.map (·.key)).Nodup) : q.length ≤ 23 := by
  have bounded := (List.subperm_of_subset distinct fun key _ => mem_noticeKeys key).length_le
  rwa [List.length_map] at bounded

/-! ## The codes (R198) -/

/-- The codes of the table: the numbers of outputs under 01h and 04h, of warm contexts under 02h, of record outputs under 03h, and 0 under the rest. -/
theorem exists_codes_iff (code : Byte) (subject : Nat) : (∃ key : NoticeKey, key.codes = (code, subject)) ↔
    ((code = 0x01 ∨ code = 0x04) ∧ subject < 6) ∨ (code = 0x02 ∧ subject < 4) ∨ (code = 0x03 ∧ subject < 2)
      ∨ ((code = 0x05 ∨ code = 0x06 ∨ code = 0x07 ∨ code = 0x08 ∨ code = 0x09) ∧ subject = 0) := by
  constructor
  · rintro ⟨key, same⟩
    obtain ⟨rfl, rfl⟩ : key.codes.1 = code ∧ key.codes.2 = subject := Prod.ext_iff.mp same
    cases key with
    | output o => exact .inl ⟨.inl rfl, o.isLt⟩
    | fault o => exact .inl ⟨.inr rfl, o.isLt⟩
    | warm w => exact .inr (.inl ⟨rfl, w.isLt⟩)
    | ring r => exact .inr (.inr (.inl ⟨rfl, r.isLt⟩))
    | guide | time | account | purchase | started => simp [NoticeKey.codes]
  · rintro (⟨rfl | rfl, small⟩ | ⟨rfl, small⟩ | ⟨rfl, small⟩ | ⟨rfl | rfl | rfl | rfl | rfl, rfl⟩)
    · exact ⟨.output ⟨subject, small⟩, rfl⟩
    · exact ⟨.fault ⟨subject, small⟩, rfl⟩
    · exact ⟨.warm ⟨subject, small⟩, rfl⟩
    · exact ⟨.ring ⟨subject, small⟩, rfl⟩
    · exact ⟨.guide, rfl⟩
    · exact ⟨.time, rfl⟩
    · exact ⟨.account, rfl⟩
    · exact ⟨.purchase, rfl⟩
    · exact ⟨.started, rfl⟩

/-- Kind code and subject name one notice. -/
theorem codes_injective {x y : NoticeKey} (same : x.codes = y.codes) : x = y := by
  have apart : (noticeKeys.map NoticeKey.codes).Nodup := by decide
  exact List.inj_on_of_nodup_map apart (mem_noticeKeys x) (mem_noticeKeys y) same

/-! ## NEXT NOTICE (R199) -/

theorem exec_nextNotice (h : Head) (s : State) : exec (.nextNotice h) s = answer h Block.nextNotice s := by rfl

theorem Block.nextNotice_nil {b : Block} (empty : b.link.notices = []) : b.nextNotice = (b, .data .noNotice) := by
  simp [Block.nextNotice, empty]

theorem Block.nextNotice_cons {b : Block} {n : Notice} {rest : List Notice} (pending : b.link.notices = n :: rest) :
    b.nextNotice = ({ b with link := { b.link with notices := rest } }, .data (.notice n)) := by
  simp [Block.nextNotice, pending]

/-- A heard NEXT NOTICE places the reply, and leaves the queue, of its owner. -/
theorem nextNotice_heard {h : Head} {s : State} {c : Block} {body : ReplyBody} (heard : Heard h s)
    (took : s.toBlock.nextNotice = (c, body)) : exec (.nextNotice h) s = .next (s.after h body c) := by
  obtain ⟨fits, first⟩ := heard
  rw [exec_nextNotice, answer_next h _ s fits first, took]
  rfl

end Sys2Proof.Machine
end

section
/-! PROOF. Notices (R198, R199). -/

open Sys2Proof Sys2Proof.Machine

/-- Settles O23: the laws of a posting, the table of codes, and the two cases of NEXT NOTICE. -/
theorem noticesAreMergedAndTaken : Obligations.NoticesAreMergedAndTaken := by
  refine ⟨fun b key body => ⟨mem_postTo_self _ _, fun n other => mem_postTo_other other, postTo_keys_eq _ _, b.post_attention key body,
      fun distinct => ?_, rfl⟩,
    fun b => b.link.attention_iff, fun _ => rfl, fun _ => rfl, fun _ => rfl, fun _ => rfl, rfl, rfl, rfl, rfl, rfl,
    exists_codes_iff, fun _ _ => codes_injective, fun _ => rfl, fun h s heard => ⟨rfl, fun empty => ?_, fun n rest pending => ?_⟩⟩
  · have kept := postTo_keys_nodup { key := key, body := body } distinct
    exact ⟨kept, length_le_of_keys_nodup kept⟩
  · exact ⟨h, rfl, nextNotice_heard heard (Block.nextNotice_nil empty)⟩
  · exact nextNotice_heard heard (Block.nextNotice_cons pending)

end
